-- ==== Sys2Proof/Word.lean ====
section
/-! DEFINITION. The word types the EW840's link, console and media data are made of, and the
identifier types of the table of 4.1 of spec/00_scope.md. Nothing here computes. -/

namespace Sys2Proof

/-- One byte: of the link (R175), of a console stream (R44), of a disk page (R88). -/
abbrev Byte := BitVec 8

/-- A two-byte field of a request or reply frame (R180). -/
abbrev Half := BitVec 16

/-- A four-byte field of a request or reply frame, and an uptime in milliseconds (4.3). -/
abbrev Quad := BitVec 32

/-- A six-byte stream position as it crosses the link (R180). -/
abbrev Pos48 := BitVec 48

/-- A channel (server), 0–7 (4.1). -/
abbrev Channel := Fin 8

/-- A virtual drive, 0–3 (4.1). -/
abbrev DriveNo := Fin 4

/-- A recipe, 0–7 (4.1). -/
abbrev RecipeNo := Fin 8

/-- A key string, 0–7 (4.1). -/
abbrev KeyNo := Fin 8

/-- A pattern unit within a channel, 0–3 (4.1). -/
abbrev UnitNo := Fin 4

/-- A trigger slot within a channel, 0–3 (4.1). -/
abbrev SlotNo := Fin 4

/-- An index into the eleven table rates of 2.1. -/
abbrev RateIx := Fin 11

/-- A fixed number of like records (the eight channels, the four slots of a channel): a list with its
length. -/
structure Table (n : Nat) (α : Type) where
  entries : List α
  size : entries.length = n
  deriving DecidableEq, Repr

/-- The entry of an index. -/
def Table.get {n : Nat} {α : Type} (t : Table n α) (i : Fin n) : α :=
  t.entries[i.val]'(by rw [t.size]; exact i.isLt)

/-- The table with one entry replaced. -/
def Table.set {n : Nat} {α : Type} (t : Table n α) (i : Fin n) (x : α) : Table n α :=
  ⟨t.entries.set i.val x, by rw [List.length_set, t.size]⟩

/-- The table of `n` equal entries. -/
def Table.replicate {α : Type} (n : Nat) (x : α) : Table n α := ⟨List.replicate n x, List.length_replicate⟩

/-- Every entry taken through a function. -/
def Table.map {n : Nat} {α β : Type} (f : α → β) (t : Table n α) : Table n β :=
  ⟨t.entries.map f, by rw [List.length_map, t.size]⟩

end Sys2Proof
end

