-- ==== Sys2Proof/Syntax.lean ====
section
/-! DEFINITION. The commands the part takes: one constructor of `Instr` for each row of
spec/opcode_table.json. A host request carries its frame's tag and the fields of its body, each at
the width it has on the link (R180), so that a field out of range can be spelt. An event on a
server's lines or of the part's own timers names its channel, want or spill. -/

namespace Sys2Proof

/-- The two pulsed output lines of a channel, Sn_BTN and Sn_RST (R1). -/
inductive Line where
  | button
  | reset
  deriving DecidableEq, Repr

/-- The levels of one channel's input pins as sampled at the end of a power-on reset
(R11, R34, R124). True is high. -/
structure Pins where
  pg   : Bool
  lock : Bool
  hb   : Bool
  rxd  : Bool
  rtr  : Bool
  vbus : Bool
  deriving DecidableEq, Repr

/-- A step record of a Write Recipe body (11.6). -/
structure StepRecord where
  kind   : Byte
  first  : Quad
  second : Quad
  deriving DecidableEq, Repr

/-- The drive descriptor of a Load Drive body (11.6): bits 0 to 3 of `presence` mark the optional
fields carried. -/
structure DescriptorRecord where
  blockSize    : Half
  capacity     : Quad
  writeProtect : Byte
  presence     : Byte
  dirtyLimit   : Half
  readahead    : Byte
  fillTimeout  : Half
  spillTimeout : Half
  deriving DecidableEq, Repr

/-- The commands, one constructor for each row of spec/opcode_table.json, in the table's order. -/
inductive Instr where
  -- resets and part-wide requests
  | powerOnReset (pins : Table 8 Pins)
  | partReset (tag : Byte)
  | channelReset (tag channel : Byte)
  | identify (tag : Byte)
  -- chapter 1
  | cut (tag channel : Byte)
  | supply (tag channel : Byte)
  | pressButton (tag channel : Byte) (duration : Half)
  | pulseReset (tag channel : Byte) (duration : Half)
  | setPowerSettings (tag channel qualifyTime minimumOff : Byte)
  | powerStatus (tag channel : Byte)
  -- chapter 2
  | relearnBaud (tag channel : Byte)
  | setBaudMode (tag channel mode : Byte) (rate : Quad)
  | setBaudSettings (tag channel : Byte) (window : Half) (tolerance agree threshold relearn : Byte)
  | baudStatus (tag channel : Byte)
  | setHeartbeatSettings (tag channel enable : Byte) (window sp1 sp2 : Half) (streak : Byte)
  | heartbeatStatus (tag channel : Byte)
  -- chapter 3
  | setCaptureLimits (tag channel floor ceiling : Byte)
  | consoleRead (tag channel : Byte) (start : Pos48) (maximum : Half) (skip : Byte)
  | consoleStatus (tag channel : Byte)
  -- chapter 4
  | sendConsole (tag channel : Byte) (bytes : List Byte)
  | flushConsoleTx (tag channel : Byte)
  | sendBreak (tag channel : Byte) (duration : Half)
  | setTransmitSettings (tag channel flow stallLimit : Byte)
  | transmitStatus (tag channel : Byte)
  -- chapter 5
  | setPattern (tag channel unit fold mode : Byte) (pattern : List Byte)
  | armMatch (tag channel unit : Byte)
  | disarmMatch (tag channel unit : Byte)
  | readMatch (tag channel unit : Byte)
  -- chapter 6
  | poolStatus (tag : Byte)
  -- chapter 7
  | loadDrive (tag drive : Byte) (descriptor : DescriptorRecord)
  | unloadDrive (tag drive : Byte)
  | insert (tag drive channel : Byte)
  | eject (tag drive force : Byte)
  | setPortPresence (tag channel presence : Byte)
  | driveStatus (tag drive : Byte)
  | portStatus (tag channel : Byte)
  -- chapter 8
  | takeWants (tag : Byte)
  | fill (tag want drive : Byte) (page : Quad) (valid size : Byte) (data : List Byte)
  | fillFailed (tag want drive : Byte) (page : Quad) (reason : Byte)
  | takeSpill (tag : Byte)
  | spillDone (tag spill drive : Byte) (page : Quad) (outcome : Byte)
  -- chapter 9
  | writeRecipe (tag recipe : Byte) (steps : List StepRecord)
  | writeKeyString (tag key : Byte) (bytes : List Byte)
  | readRecipe (tag recipe : Byte)
  | readKeyString (tag key : Byte)
  | runRecipe (tag channel recipe : Byte)
  | stopRecipe (tag channel : Byte)
  | runStatus (tag channel : Byte)
  -- chapter 10
  | setTrigger (tag channel slot event unit given recipe : Byte) (holdoff : Half) (limit : Byte)
  | rearmTrigger (tag channel slot : Byte)
  | triggerStatus (tag channel : Byte)
  | setNoticeMask (tag : Byte) (fields : Table 29 Byte)
  | readChanges (tag : Byte)
  -- link transactions that are no valid request (chapter 11)
  | badFrame (bytes : List Byte)
  | replyRead (clocked : Nat)
  | linkOtherTransaction (first : Option Byte) (clocked : Nat)
  -- events of the power lines and the lock (chapter 1)
  | pgChange (channel : Channel) (level : Bool)
  | pgQualified (channel : Channel)
  | holdoffExpiry (channel : Channel)
  | pulseEnd (channel : Channel) (line : Line)
  | attributionWindowExpiry (channel : Channel) (line : Line)
  | lockChange (channel : Channel) (level : Bool)
  | lockQualifiedLocked (channel : Channel)
  | lockQualifiedFree (channel : Channel)
  -- events of the receiver and the monitors (chapters 2 and 3)
  | characterAccepted (channel : Channel)
  | framingError (channel : Channel)
  | baudWindowEnd (channel : Channel)
  | hbChange (channel : Channel) (level : Bool)
  | heartbeatEdge (channel : Channel)
  | heartbeatWindowEnd (channel : Channel)
  -- events of the transmitter (chapter 4)
  | characterEnd (channel : Channel)
  | breakEnd (channel : Channel)
  | keyCountdownExpiry (channel : Channel)
  | rtrAsserted (channel : Channel) (level : Bool)
  | stallExpiry (channel : Channel)
  -- events of the pool and the media port (chapters 6 and 7)
  | pageWaitDeadline (channel : Channel)
  | vbusChange (channel : Channel) (level : Bool)
  | vbusQualified (channel : Channel)
  | busReset (channel : Channel)
  | configuration (channel : Channel)
  | deconfiguration (channel : Channel)
  | suspend (channel : Channel)
  | resume (channel : Channel)
  | remoteWakeSetting (channel : Channel) (on : Bool)
  | queryReady (channel : Channel)
  | queryCapacity (channel : Channel)
  | readBlocks (channel : Channel) (lba count : Nat)
  | writeBlocks (channel : Channel) (lba count : Nat) (data : List Byte)
  | removalLock (channel : Channel) (on : Bool)
  | serverEject (channel : Channel)
  | sync (channel : Channel)
  | syncDeadline (channel : Channel)
  -- deadlines of the cache (chapter 8)
  | wantDeadline (want : Byte)
  | wantWaitDeadline (channel : Channel)
  | wantEntryDeadline (channel : Channel)
  | dirtyWaitDeadline (channel : Channel)
  | spillDeadline (spill : Byte)
  -- deadlines of the runs and the slots (chapters 9 and 10)
  | stepTimeout (channel : Channel)
  | delayEnd (channel : Channel)
  | quietIntervalEnd (channel : Channel)
  | triggerHoldoffExpiry (channel : Channel) (slot : SlotNo)
  -- events of the receive line and the heartbeat line (chapter 2)
  | rxdRawChange (channel : Channel) (level : Bool) (gap : Nat)
  | survivingEdge (channel : Channel)
  | falseStart (channel : Channel)
  | heartbeatQualifiedLow (channel : Channel)
  deriving DecidableEq, Repr

end Sys2Proof
end

