-- ==== Sys2Proof/WellFormed.lean ====
section
/-! DEFINITION. The checks that make a command one that a sender can send: the body of a request
fits the frame (R177), and a link transaction of the third kind does not begin with the byte of
another kind (R175). Every other field holds any value its width has: a value out of range is a
matter of the request's own rule, answered by a reply (R177, R180). -/

namespace Sys2Proof

/-- The longest body a request frame may have (R177: "the frame is bad if the body length exceeds
4,160"). -/
def fitsFrame (bodyLength : Nat) : Bool := bodyLength ≤ 4160

/-- The first bytes that choose neither a request write nor a reply read (R175). -/
def choosesNothing (first : Option Byte) : Bool := first ≠ some 0x5A && first ≠ some 0xA5

/-- A command is well formed when its checks pass; the commands not named have none. -/
def Instr.wellFormed : Instr → Bool
  | .sendConsole _ _ bytes => fitsFrame (1 + bytes.length)
  | .setPattern _ _ _ _ _ pattern => fitsFrame (4 + pattern.length)
  | .fill _ _ _ _ _ _ data => fitsFrame (10 + data.length)
  | .writeRecipe _ _ steps => fitsFrame (1 + 9 * steps.length)
  | .writeKeyString _ _ bytes => fitsFrame (1 + bytes.length)
  | .linkOtherTransaction first _ => choosesNothing first
  | _ => true

end Sys2Proof
end

