-- ==== Sys2Proof/Decode.lean ====
section
/-! DEFINITION. The frames of the Management Link (R177, R179, 11.6): the byte order of their
fields, their CRC-16, the catalogue of request kinds (11.5), the body of each request, and the
reader that turns the bytes after 0x5A into the request they spell, or into nothing where the frame
is bad. `decodeTableWord` answers none: spec/opcode_table.json gives no row any bits. -/

namespace Sys2Proof

/-! ## Fields, high byte first (R180) -/

/-- The two bytes of a field, high byte first. -/
def Half.bytes (h : Half) : List Byte := [h.extractLsb' 8 8, h.extractLsb' 0 8]

/-- The four bytes of a field, high byte first. -/
def Quad.bytes (q : Quad) : List Byte :=
  [q.extractLsb' 24 8, q.extractLsb' 16 8, q.extractLsb' 8 8, q.extractLsb' 0 8]

/-- The six bytes of a stream position, high byte first. -/
def Pos48.bytes (p : Pos48) : List Byte :=
  [p.extractLsb' 40 8, p.extractLsb' 32 8, p.extractLsb' 24 8, p.extractLsb' 16 8,
    p.extractLsb' 8 8, p.extractLsb' 0 8]

/-- A two-byte field from its bytes. -/
def halfOf (b1 b0 : Byte) : Half := b1 ++ b0

/-- A four-byte field from its bytes. -/
def quadOf (b3 b2 b1 b0 : Byte) : Quad := ((b3 ++ b2 : Half) ++ (b1 ++ b0 : Half) : BitVec (16 + 16))

/-- A stream position from its bytes. -/
def posOf (b5 b4 b3 b2 b1 b0 : Byte) : Pos48 :=
  ((b5 ++ b4 : Half) ++ ((b3 ++ b2 : Half) ++ (b1 ++ b0 : Half) : BitVec (16 + 16)) : BitVec (16 + 32))

/-! ## The CRC (R177) -/

/-- One shift of the CRC register: the polynomial x^16 + x^12 + x^5 + 1. -/
def crcShift (r : Half) : Half := if r.msb then (r <<< 1) ^^^ 0x1021 else r <<< 1

/-- `n` shifts of the CRC register. -/
def crcShifts : Nat → Half → Half
  | 0, r => r
  | n + 1, r => crcShifts n (crcShift r)

/-- One byte into the CRC register, most significant bit first. -/
def crcByte (r : Half) (b : Byte) : Half := crcShifts 8 (r ^^^ (b ++ (0 : Byte) : BitVec (8 + 8)))

/-- The CRC-16 of R177: initial value 0xFFFF, no final inversion. -/
def crc16 (bytes : List Byte) : Half := bytes.foldl crcByte 0xFFFF

/-! ## Request frames -/

/-- A request as the link sees it (R177). -/
structure RequestFrame where
  kind : Byte
  tag  : Byte
  body : List Byte
  deriving DecidableEq, Repr

/-- The bytes of a step record (11.6). -/
def StepRecord.bytes (r : StepRecord) : List Byte := r.kind :: (r.first.bytes ++ r.second.bytes)

/-- The bytes of a drive descriptor (11.6). -/
def DescriptorRecord.bytes (d : DescriptorRecord) : List Byte :=
  d.blockSize.bytes ++ d.capacity.bytes ++ [d.writeProtect, d.presence] ++ d.dirtyLimit.bytes ++
    [d.readahead] ++ d.fillTimeout.bytes ++ d.spillTimeout.bytes

/-- The frame of each host request: its kind of the catalogue (11.5), its tag, and its body, laid out
by 11.6 where it lays it out and by the conventions of R180 otherwise. A command that is no host
request has none. The data length field of a Fill is the length of its data, as the body shape asks
(R177 step 5). -/
def Instr.request? : Instr → Option RequestFrame
  | .identify t => some ⟨0x01, t, []⟩
  | .partReset t => some ⟨0x02, t, []⟩
  | .channelReset t c => some ⟨0x03, t, [c]⟩
  | .cut t c => some ⟨0x10, t, [c]⟩
  | .supply t c => some ⟨0x11, t, [c]⟩
  | .pressButton t c d => some ⟨0x12, t, c :: d.bytes⟩
  | .pulseReset t c d => some ⟨0x13, t, c :: d.bytes⟩
  | .setPowerSettings t c q m => some ⟨0x14, t, [c, q, m]⟩
  | .powerStatus t c => some ⟨0x15, t, [c]⟩
  | .relearnBaud t c => some ⟨0x20, t, [c]⟩
  | .setBaudMode t c m r => some ⟨0x21, t, c :: m :: r.bytes⟩
  | .setBaudSettings t c w a b d e => some ⟨0x22, t, c :: (w.bytes ++ [a, b, d, e])⟩
  | .baudStatus t c => some ⟨0x23, t, [c]⟩
  | .setHeartbeatSettings t c e w s1 s2 k =>
    some ⟨0x24, t, c :: e :: (w.bytes ++ s1.bytes ++ s2.bytes ++ [k])⟩
  | .heartbeatStatus t c => some ⟨0x25, t, [c]⟩
  | .setCaptureLimits t c f l => some ⟨0x30, t, [c, f, l]⟩
  | .consoleRead t c p m k => some ⟨0x31, t, c :: (p.bytes ++ m.bytes ++ [k])⟩
  | .consoleStatus t c => some ⟨0x32, t, [c]⟩
  | .sendConsole t c bs => some ⟨0x38, t, c :: bs⟩
  | .flushConsoleTx t c => some ⟨0x39, t, [c]⟩
  | .sendBreak t c d => some ⟨0x3A, t, c :: d.bytes⟩
  | .setTransmitSettings t c f l => some ⟨0x3B, t, [c, f, l]⟩
  | .transmitStatus t c => some ⟨0x3C, t, [c]⟩
  | .setPattern t c u f m bs => some ⟨0x40, t, c :: u :: f :: m :: bs⟩
  | .armMatch t c u => some ⟨0x41, t, [c, u]⟩
  | .disarmMatch t c u => some ⟨0x42, t, [c, u]⟩
  | .readMatch t c u => some ⟨0x43, t, [c, u]⟩
  | .poolStatus t => some ⟨0x48, t, []⟩
  | .loadDrive t d r => some ⟨0x50, t, d :: r.bytes⟩
  | .unloadDrive t d => some ⟨0x51, t, [d]⟩
  | .insert t d c => some ⟨0x52, t, [d, c]⟩
  | .eject t d f => some ⟨0x53, t, [d, f]⟩
  | .setPortPresence t c p => some ⟨0x54, t, [c, p]⟩
  | .driveStatus t d => some ⟨0x55, t, [d]⟩
  | .portStatus t c => some ⟨0x56, t, [c]⟩
  | .takeWants t => some ⟨0x60, t, []⟩
  | .fill t w d p v z data =>
    some ⟨0x61, t, w :: d :: (p.bytes ++ [v, z] ++ Half.bytes (BitVec.ofNat 16 data.length) ++ data)⟩
  | .fillFailed t w d p r => some ⟨0x62, t, w :: d :: (p.bytes ++ [r])⟩
  | .takeSpill t => some ⟨0x63, t, []⟩
  | .spillDone t n d p o => some ⟨0x64, t, n :: d :: (p.bytes ++ [o])⟩
  | .writeRecipe t r steps => some ⟨0x70, t, r :: steps.flatMap StepRecord.bytes⟩
  | .writeKeyString t k bs => some ⟨0x71, t, k :: bs⟩
  | .readRecipe t r => some ⟨0x72, t, [r]⟩
  | .readKeyString t k => some ⟨0x73, t, [k]⟩
  | .runRecipe t c r => some ⟨0x74, t, [c, r]⟩
  | .stopRecipe t c => some ⟨0x75, t, [c]⟩
  | .runStatus t c => some ⟨0x76, t, [c]⟩
  | .setTrigger t c s e u g r h l => some ⟨0x80, t, [c, s, e, u, g, r] ++ h.bytes ++ [l]⟩
  | .rearmTrigger t c s => some ⟨0x81, t, [c, s]⟩
  | .triggerStatus t c => some ⟨0x82, t, [c]⟩
  | .setNoticeMask t m => some ⟨0x83, t, m.entries⟩
  | .readChanges t => some ⟨0x84, t, []⟩
  | _ => none

/-- The bytes of a frame after the transaction byte 0x5A (R177): kind, tag, body length, body, CRC. -/
def RequestFrame.bytes (f : RequestFrame) : List Byte :=
  let head := f.kind :: f.tag :: (Half.bytes (BitVec.ofNat 16 f.body.length) ++ f.body)
  head ++ (crc16 head).bytes

/-! ## Reading a frame -/

/-- A body of no fields. -/
def bare (i : Instr) : List Byte → Option Instr
  | [] => some i
  | _ => none

/-- A body of one byte. -/
def one (f : Byte → Instr) : List Byte → Option Instr
  | [a] => some (f a)
  | _ => none

/-- A body of two bytes. -/
def two (f : Byte → Byte → Instr) : List Byte → Option Instr
  | [a, b] => some (f a b)
  | _ => none

/-- A body of three bytes. -/
def three (f : Byte → Byte → Byte → Instr) : List Byte → Option Instr
  | [a, b, c] => some (f a b c)
  | _ => none

/-- A body of a channel and a two-byte duration. -/
def timed (f : Byte → Half → Instr) : List Byte → Option Instr
  | [a, b, c] => some (f a (halfOf b c))
  | _ => none

/-- A body of one byte and a run of bytes. -/
def run1 (f : Byte → List Byte → Instr) : List Byte → Option Instr
  | a :: rest => some (f a rest)
  | _ => none

/-- The first six bytes of a want or spill record and one byte more (11.6). -/
def answer (f : Byte → Byte → Quad → Byte → Instr) : List Byte → Option Instr
  | [n, d, a, b, c, e, r] => some (f n d (quadOf a b c e) r)
  | _ => none

/-- A list of 9-byte step records; none where the length is no multiple of 9 (R177 step 5). -/
def stepRecords : List Byte → Option (List StepRecord)
  | [] => some []
  | k :: a :: b :: c :: d :: e :: f :: g :: h :: rest =>
    (stepRecords rest).map (⟨k, quadOf a b c d, quadOf e f g h⟩ :: ·)
  | _ => none

/-- The request of a kind, a tag and a body; none where the kind is not in the catalogue (R177 step 4)
or the body does not have the kind's shape (R177 step 5). -/
def requestOf (kind tag : Byte) (body : List Byte) : Option Instr :=
  match kind.toNat with
  | 0x01 => bare (.identify tag) body
  | 0x02 => bare (.partReset tag) body
  | 0x03 => one (.channelReset tag) body
  | 0x10 => one (.cut tag) body
  | 0x11 => one (.supply tag) body
  | 0x12 => timed (.pressButton tag) body
  | 0x13 => timed (.pulseReset tag) body
  | 0x14 => three (.setPowerSettings tag) body
  | 0x15 => one (.powerStatus tag) body
  | 0x20 => one (.relearnBaud tag) body
  | 0x21 => match body with
    | [c, m, a, b, d, e] => some (.setBaudMode tag c m (quadOf a b d e))
    | _ => none
  | 0x22 => match body with
    | [c, a, b, x, y, z, w] => some (.setBaudSettings tag c (halfOf a b) x y z w)
    | _ => none
  | 0x23 => one (.baudStatus tag) body
  | 0x24 => match body with
    | [c, e, a, b, p, q, r, s, k] =>
      some (.setHeartbeatSettings tag c e (halfOf a b) (halfOf p q) (halfOf r s) k)
    | _ => none
  | 0x25 => one (.heartbeatStatus tag) body
  | 0x30 => three (.setCaptureLimits tag) body
  | 0x31 => match body with
    | [c, p5, p4, p3, p2, p1, p0, a, b, k] =>
      some (.consoleRead tag c (posOf p5 p4 p3 p2 p1 p0) (halfOf a b) k)
    | _ => none
  | 0x32 => one (.consoleStatus tag) body
  | 0x38 => run1 (.sendConsole tag) body
  | 0x39 => one (.flushConsoleTx tag) body
  | 0x3A => timed (.sendBreak tag) body
  | 0x3B => three (.setTransmitSettings tag) body
  | 0x3C => one (.transmitStatus tag) body
  | 0x40 => match body with
    | c :: u :: f :: m :: rest => some (.setPattern tag c u f m rest)
    | _ => none
  | 0x41 => two (.armMatch tag) body
  | 0x42 => two (.disarmMatch tag) body
  | 0x43 => two (.readMatch tag) body
  | 0x48 => bare (.poolStatus tag) body
  | 0x50 => match body with
    | [d, z1, z0, c3, c2, c1, c0, w, p, l1, l0, r, f1, f0, s1, s0] =>
      some (.loadDrive tag d
        ⟨halfOf z1 z0, quadOf c3 c2 c1 c0, w, p, halfOf l1 l0, r, halfOf f1 f0, halfOf s1 s0⟩)
    | _ => none
  | 0x51 => one (.unloadDrive tag) body
  | 0x52 => two (.insert tag) body
  | 0x53 => two (.eject tag) body
  | 0x54 => two (.setPortPresence tag) body
  | 0x55 => one (.driveStatus tag) body
  | 0x56 => one (.portStatus tag) body
  | 0x60 => bare (.takeWants tag) body
  | 0x61 => match body with
    | n :: d :: a :: b :: c :: e :: v :: z :: l1 :: l0 :: data =>
      if (halfOf l1 l0).toNat = data.length then some (.fill tag n d (quadOf a b c e) v z data) else none
    | _ => none
  | 0x62 => answer (.fillFailed tag) body
  | 0x63 => bare (.takeSpill tag) body
  | 0x64 => answer (.spillDone tag) body
  | 0x70 => match body with
    | r :: rest => (stepRecords rest).map (.writeRecipe tag r)
    | _ => none
  | 0x71 => run1 (.writeKeyString tag) body
  | 0x72 => one (.readRecipe tag) body
  | 0x73 => one (.readKeyString tag) body
  | 0x74 => two (.runRecipe tag) body
  | 0x75 => one (.stopRecipe tag) body
  | 0x76 => one (.runStatus tag) body
  | 0x80 => match body with
    | [c, s, e, u, g, r, a, b, l] => some (.setTrigger tag c s e u g r (halfOf a b) l)
    | _ => none
  | 0x81 => two (.rearmTrigger tag) body
  | 0x82 => one (.triggerStatus tag) body
  | 0x83 => if h : body.length = 29 then some (.setNoticeMask tag ⟨body, h⟩) else none
  | 0x84 => bare (.readChanges tag) body
  | _ => none

/-- The request that the bytes after 0x5A spell, by checks 2 to 5 of R177 in their order; none for a
bad frame. (Check 1, READY, is the link's own: `Machine.BadFrame`.) -/
def readFrame (bytes : List Byte) : Option Instr :=
  match bytes with
  | kind :: tag :: l1 :: l0 :: rest =>
    let n := (halfOf l1 l0).toNat
    if fitsFrame n && rest.length == n + 2 then
      let body := rest.take n
      if rest.drop n = (crc16 (kind :: tag :: l1 :: l0 :: body)).bytes then requestOf kind tag body
      else none
    else none
  | _ => none

/-- The command that a word of spec/opcode_table.json spells. The table gives none of its rows a bit, a
mask or a field, so no word spells a command (log 2). -/
def decodeTableWord (_nbits _w : Nat) : Option Instr := none

end Sys2Proof
end

