-- ==== Sys2Proof/Config.lean ====
section
/-! DEFINITION. What the part fixes once and for all (the sizes of its tables, the units of its
clock), and the free values: constants without a body for the bytes the spec leaves unstated. -/

namespace Sys2Proof.Config

/-- Pool pages (R88). -/
def poolPages : Nat := 512

/-- Bytes in a pool page, and stream positions in a capture page (R45, R88). -/
def pageBytes : Nat := 4096

/-- Want Table entries (R129). -/
def wantEntries : Nat := 32

/-- Spills in flight at most (R138). -/
def spillEntries : Nat := 8

/-- Replies the reply queue holds at most (R178). -/
def replyDepth : Nat := 8

/-- Markers a marker list holds at most (R51). -/
def markerDepth : Nat := 64

/-- Bytes an injection queue holds at most (R61). -/
def queueDepth : Nat := 512

/-- The longest body of a request frame (R177). -/
def maxBody : Nat := 4160

/-- The last stream position plus one: `next` stops here (R44). -/
def streamEnd : Nat := 2 ^ 48 - 1

/-- DESIGN CHOICE (log 1): the model's clock counts quarters of a measurement-clock tick
(3.90625 ns), the unit in which one bit lasts exactly the divisor D (R24). -/
def tickUnits : Nat := 4

/-- Clock units in a millisecond: 64,000 ticks of 15.625 ns (4.3). -/
def msUnits : Nat := 256000

/-- The glitch filter holds a change for 32 ticks (R21). -/
def filterUnits : Nat := 32 * tickUnits

/-- The debounce of Sn_LOCK (R11), in ms. -/
def lockDebounce : Nat := 50

/-- The debounce of Sn_HB (R34), in ms. -/
def hbDebounce : Nat := 2

/-- The qualification of Sn_VBUS (R111), in ms. -/
def vbusDebounce : Nat := 10

/-- An attribution window's start value (R9), in ms. -/
def attribution : Nat := 30000

/-- FREE VALUE (log 9): a byte of a reply whose value the spec does not state (the unit of a
trigger slot that watches no MATCH, the code of a result that is not ENDED, and so on), for the
n-th reply formed and the k-th such byte in it. Nothing constrains it. -/
opaque unstatedByte : Nat → Nat → Byte

/-- FREE VALUE (log 10): the k-th byte of a server's WRITE BLOCKS data that the command did not
carry. -/
opaque unsentByte : Nat → Byte

end Sys2Proof.Config
end

