-- ==== Sys2Proof/Machine/Blocks.lean ====
section
/-! DEFINITION. The records the part's blocks keep, as the openings of the spec's chapters list
them. Moments are clock counts of the model (`Config.tickUnits`, log 1): a timer is held as the
moment it started or the moment it ends, so that time passing changes no record. Where a line's or
a record's level follows from other state it is not stored a second time (the outputs Sn_BTN, Sn_RST
and Sn_PEN, the transmitter state, the heartbeat gate, LNK_ATTN: see `Machine/Ops.lean` and
`Machine/Flags.lean`). -/

namespace Sys2Proof.Machine

/-! ## Chapter 1: the Power Controller -/

/-- The four power states (R3). -/
inductive PowerState where
  | cutHoldoff
  | cut
  | off
  | on
  deriving DecidableEq, Repr

/-- Who asked for a pulse or a break (R7, R67). -/
inductive Origin where
  | host
  | run
  deriving DecidableEq, Repr

/-- An active pulse record (R7): its origin, the duration taken in ms, and the moment it began. -/
structure Pulse where
  origin   : Origin
  duration : Nat
  since    : Nat
  deriving DecidableEq, Repr

/-- The causes of a POWER_OFF (R10), NONE after a reset. -/
inductive OffCause where
  | none
  | cut
  | button
  | reset
  | spontaneous
  deriving DecidableEq, Repr

/-- The Power Controller of a channel. -/
structure Power where
  /-- The power state (R3). -/
  state : PowerState
  /-- In CUT_HOLDOFF, the moment the hold-off expires (R6). -/
  holdoffEnd : Nat
  /-- The pending-supply flag (R5). -/
  pendingSupply : Bool
  /-- The raw Sn_PG level. -/
  pgRaw : Bool
  /-- The qualified power-good level, true for HIGH (R2). -/
  pgQualified : Bool
  /-- The moment a new raw level was first seen, while its qualification is timed (R2). -/
  pgSince : Option Nat
  /-- The button pulse record (R7). -/
  button : Option Pulse
  /-- The reset pulse record (R7). -/
  reset : Option Pulse
  /-- The moment the button attribution window reaches 0 (R9). -/
  buttonWindowEnd : Nat
  /-- The moment the reset attribution window reaches 0 (R9). -/
  resetWindowEnd : Nat
  /-- The raw Sn_LOCK level (R11). -/
  lockRaw : Bool
  /-- The qualified lock state, true for LOCKED (R11). -/
  locked : Bool
  /-- The moment a differing lock level was first seen (R11). -/
  lockSince : Option Nat
  /-- The last POWER_OFF cause (R10). -/
  lastCause : OffCause
  /-- Its uptime stamp (R10). -/
  lastCauseAt : Quad
  /-- The qualify time in ms, 1–250 (R15). -/
  qualifyTime : Nat
  /-- The minimum off time in s, 1–60 (R15). -/
  minimumOff : Nat
  deriving DecidableEq, Repr

/-! ## Chapter 2: the monitors -/

/-- The finder states (R25); the mode is FIXED in FIXED and AUTO in the other two. -/
inductive FinderState where
  | hunting
  | locked
  | fixed
  deriving DecidableEq, Repr

/-- The verdicts of a window (R23), NONE where none was formed (R22, R32). -/
inductive Verdict where
  | sparse
  | outOfTolerance
  | candidate (rate : RateIx)
  | none
  deriving DecidableEq, Repr

/-- The figures of the last completed window (R32). -/
structure WindowFigures where
  q : Nat
  m : Option Nat
  f : Nat
  verdict : Verdict
  error : Option Nat
  deriving DecidableEq, Repr

/-- The finder's five settings (R31). -/
structure FinderSettings where
  window    : Nat
  tolerance : Nat
  agree     : Nat
  threshold : Nat
  relearn   : Bool
  deriving DecidableEq, Repr

/-- The Baud Finder of a channel, with the glitch filter of its line (R21). -/
structure Finder where
  state : FinderState
  /-- In FIXED, the host's rate (R30). -/
  fixedRate : Nat
  /-- The last locked rate, the provisional rate of HUNTING (R25). -/
  lastLocked : RateIx
  /-- The divisor D (R24). -/
  divisor : Nat
  /-- The remembered candidate (R26). -/
  candidate : Option RateIx
  /-- The agreement count (R26). -/
  agreement : Nat
  /-- The moment the window in progress started (R22). -/
  windowStart : Nat
  /-- Its length in ms (R22). -/
  windowLength : Nat
  /-- Qualifying runs that ended in the window (R22). -/
  q : Nat
  /-- The shortest of them, in ticks (R22). -/
  m : Option Nat
  /-- Framing errors in the window (R22). -/
  f : Nat
  /-- The last-window figures (R32). -/
  last : WindowFigures
  settings : FinderSettings
  /-- The raw Sn_RXD level (R21). -/
  rxdRaw : Bool
  /-- The level after the glitch filter (R21). -/
  rxdLevel : Bool
  /-- The moment of a raw change under its 32-tick test (R21). -/
  edgeAt : Option Nat
  /-- The moment of the edge that opened the run in progress (R21). -/
  runStart : Option Nat
  deriving DecidableEq, Repr

/-- The watch states (R35). -/
inductive WatchState where
  | idle
  | watching
  | hung
  deriving DecidableEq, Repr

/-- The watch's five settings (R39). -/
structure WatchSettings where
  enable : Bool
  window : Nat
  sp1    : Nat
  sp2    : Nat
  streak : Nat
  deriving DecidableEq, Repr

/-- The Heartbeat Watch of a channel. -/
structure Watch where
  /-- The raw Sn_HB level (R34). -/
  raw : Bool
  /-- The qualified level (R34). -/
  qualified : Bool
  /-- The moment a differing level was first seen (R34). -/
  since : Option Nat
  state : WatchState
  /-- Edges of the window in progress (R34). -/
  count : Nat
  /-- The moment the window in progress started (R35). -/
  windowStart : Nat
  /-- Its length in ms (R39). -/
  windowLength : Nat
  /-- The held count and its uptime (R36). -/
  held : Nat
  heldAt : Quad
  /-- The low streak (R36). -/
  lowStreak : Nat
  /-- The FAST-raised indicator (R37). -/
  fastRaised : Bool
  settings : WatchSettings
  deriving DecidableEq, Repr

/-! ## Chapter 3: the receiver and the Capture Store -/

/-- The receiver's framing state (R41). In ASSEMBLE: the moment of the falling edge, the divisor in
force then, and the samples taken so far, in order: the start bit's, the eight data bits', the stop
bit's. -/
inductive Framing where
  | waitHigh
  | waitStart
  | assemble (since divisor : Nat) (samples : List Bool)
  deriving DecidableEq, Repr

/-- The nineteen marker kinds (R52), in its order. -/
inductive MarkerKind where
  | powerOn
  | powerOff
  | powerCut
  | powerSupply
  | button
  | resetPulse
  | baudLock
  | baudLost
  | mediaIn
  | mediaOut
  | runStart
  | runEnd
  | matched
  | hang
  | fast
  | lockOn
  | lockOff
  | breakSent
  | txFlush
  deriving DecidableEq, Repr

/-- A marker (R51). -/
structure Marker where
  kind : MarkerKind
  position : Nat
  time : Quad
  argument : Nat
  deriving DecidableEq, Repr

/-- A capture page (R45): the position of its first byte, and the bytes it holds. -/
structure CapturePage where
  base  : Nat
  bytes : List Byte
  deriving DecidableEq, Repr

/-- The Capture Store of a channel. -/
structure Store where
  /-- The capture page list, oldest first (R45). -/
  pages : List CapturePage
  /-- The position the next captured byte will take (R44). -/
  next : Nat
  /-- The position of the first byte retained (R44). -/
  oldest : Nat
  /-- The marker list, oldest first (R51). -/
  markers : List Marker
  floor : Nat
  ceiling : Nat
  deriving DecidableEq, Repr

/-! ## Chapter 4: the Console Transmitter -/

/-- A character on the transmit line (R60): the byte, the moment its start bit began, the divisor. -/
structure TxChar where
  byte : Byte
  since : Nat
  divisor : Nat
  deriving DecidableEq, Repr

/-- The countdown to a repeating slot's next due (R64): none, running to a moment while the power
state is ON, or frozen with what remains of it. -/
inductive Countdown where
  | none
  | running (dueAt : Nat)
  | frozen (remaining : Nat)
  deriving DecidableEq, Repr

/-- An installed key-pass slot (R63). -/
structure KeySlot where
  /-- The copy of the key string. -/
  string : List Byte
  /-- The key string number. -/
  number : KeyNo
  /-- The repeat interval in ms, 0 for once. -/
  interval : Nat
  due : Bool
  countdown : Countdown
  /-- Bytes of the pass in progress sent, or no pass. -/
  progress : Option Nat
  spent : Bool
  deriving DecidableEq, Repr

/-- A break record that is not none (R67, R68): pending while `since` is none, sending from the
moment it holds. -/
structure Break where
  origin : Origin
  duration : Nat
  since : Option Nat
  deriving DecidableEq, Repr

/-- The Console Transmitter of a channel. Its state GATED, IDLE, SENDING, BREAKING or HELD follows
from these and the power state (`Machine.txState`). -/
structure Transmitter where
  char : Option TxChar
  queue : List Byte
  slot : Option KeySlot
  brk : Option Break
  /-- The moment the hold in progress began (R70). -/
  hold : Option Nat
  /-- The Sn_RTR level, true for asserted (R70). -/
  rtr : Bool
  flow : Bool
  /-- The stall limit in s, 0 for none (R73). -/
  stallLimit : Nat
  /-- MODEL FIELD (log 33): the steps of a character's or break's end are being carried out, and the
  arbiter's turn is the last of them (R65, R68). Clear between commands. -/
  settling : Bool
  deriving DecidableEq, Repr

/-! ## Chapter 5: the match units -/

/-- The unit states (R76). -/
inductive UnitState where
  | unset
  | disarmed
  | armed
  | hit
  deriving DecidableEq, Repr

/-- A match unit. -/
structure MatchUnit where
  pattern : List Byte
  fold : Bool
  /-- COUNTING when true, ONE_SHOT otherwise. -/
  counting : Bool
  state : UnitState
  hits : Nat
  pending : Bool
  progress : Nat
  deriving DecidableEq, Repr

/-! ## Chapters 6 and 8: cache pages, waits, wants and spills -/

/-- The cache states (R88). -/
inductive CacheState where
  | filling
  | clean
  | dirty
  | spilling
  | spillingDirty
  deriving DecidableEq, Repr

/-- An entry of a drive's page map (R125): an image page index, its cache state and the page's bytes
(none while FILLING). -/
structure CachePage where
  index : Nat
  state : CacheState
  data : List Byte
  deriving DecidableEq, Repr

/-- A cache page named by its drive and image page index (R88). -/
structure PageRef where
  drive : DriveNo
  index : Nat
  deriving DecidableEq, Repr

/-- What a page waiter needs (R96). -/
inductive Need where
  | filling
  | dirty
  | convert
  deriving DecidableEq, Repr

/-- An entry of the page waiter list (R96). -/
structure PageWaiter where
  channel : Channel
  drive : DriveNo
  page : Nat
  need : Need
  since : Quad
  deadline : Nat
  deriving DecidableEq, Repr

/-- An entry of the want-entry waiter list (R134) or of a dirty waiter list (R136). -/
structure Waiter where
  channel : Channel
  drive : DriveNo
  page : Nat
  since : Quad
  deadline : Nat
  deriving DecidableEq, Repr

/-- A want (R129); the waiters are the channels of the waiting requests' ports. -/
structure Want where
  number : Byte
  drive : DriveNo
  page : Nat
  valid : Nat
  taken : Bool
  deadline : Nat
  waiters : List Channel
  deriving DecidableEq, Repr

/-- A spill in flight (R138). -/
structure Spill where
  number : Byte
  drive : DriveNo
  page : Nat
  deadline : Nat
  deriving DecidableEq, Repr

/-! ## Chapter 7: drives and ports -/

/-- A drive descriptor as taken (R101). -/
structure Descriptor where
  blockSize : Nat
  capacity : Nat
  writeProtect : Bool
  dirtyLimit : Nat
  readahead : Nat
  fillTimeout : Nat
  spillTimeout : Nat
  deriving DecidableEq, Repr

/-- The drive states (7.2). -/
inductive DriveState where
  | empty
  | idle
  | inserted
  | present
  | ejectWait
  | draining
  deriving DecidableEq, Repr

/-- A virtual drive: its Drive Table entry, its page map and dirty waiter list (chapter 8), and its
two change flags (R171). -/
structure Drive where
  state : DriveState
  descriptor : Option Descriptor
  bound : Option Channel
  changeOwed : Bool
  ejectRequested : Bool
  map : List CachePage
  dirtyWaiters : List Waiter
  driveFlag : Bool
  serverEjectFlag : Bool
  deriving DecidableEq, Repr

/-- The port states (R110). -/
inductive PortState where
  | off
  | noVbus
  | attached
  | configured
  | suspended
  deriving DecidableEq, Repr

/-- The completion statuses (R114). -/
inductive Completion where
  | good
  | noMedium
  | mediumChanged
  | ejectRequested
  | outOfRange
  | writeProtected
  | notReadyRetry
  | mediumError
  | lockedByServer
  deriving DecidableEq, Repr

/-- The kinds of server request (R114). -/
inductive RequestKind where
  | queryReady
  | queryCapacity
  | readBlocks
  | writeBlocks
  | removalLock (on : Bool)
  | eject
  | sync
  deriving DecidableEq, Repr

/-- What a request in progress waits on (R114, R123), with the wait's start. The waits that no list
entry keeps a deadline for, on a want and on spills, carry it here (R134, R121). DESIGN CHOICE (log 38): a held
completion has no wait start. -/
inductive Wait where
  | want (number : Byte) (since : Quad) (deadline : Nat)
  | wantEntry (since : Quad)
  | page (since : Quad)
  | dirtyRoom (since : Quad)
  | spills (since : Quad) (deadline : Nat)
  | held (status : Completion)
  deriving DecidableEq, Repr

/-- The record of a request in progress (R114). -/
structure Request where
  kind : RequestKind
  lba : Nat
  count : Nat
  /-- The blocks transferred. -/
  done : Nat
  /-- The data of a WRITE BLOCKS. -/
  data : List Byte
  wait : Option Wait
  deriving DecidableEq, Repr

/-- A completion given to the server (R114). -/
structure Completed where
  status : Completion
  blocks : Nat
  time : Quad
  deriving DecidableEq, Repr

/-- What the port has handed to the server for the request last taken: blocks, or the answer of
QUERY CAPACITY (R116, R117). -/
structure Handed where
  blocks : List Byte
  capacity : Option (Nat × Nat)
  deriving DecidableEq, Repr

/-- The Media Port of a channel. The pull-up on Sn_DP is applied in ATTACHED, CONFIGURED and
SUSPENDED (R110). -/
structure Port where
  presence : Bool
  vbusRaw : Bool
  /-- The qualified Sn_VBUS level, true for present (R111). -/
  vbus : Bool
  vbusSince : Option Nat
  state : PortState
  removalLock : Bool
  remoteWake : Bool
  request : Option Request
  handed : Handed
  last : Option Completed
  deriving DecidableEq, Repr

/-! ## Chapter 9: recipes and runs -/

/-- The outcomes (R147). -/
inductive StepOutcome where
  | none
  | met
  | timedOut
  | failed
  deriving DecidableEq, Repr

/-- The recipe steps (R144), with their parameters as stored. Timeouts are in units of 100 ms. -/
inductive RecipeStep where
  | pressButton (duration : Nat)
  | pulseReset (duration : Nat)
  | cutPower
  | supplyPower
  | waitPower (on : Bool) (timeout : Nat)
  | waitMatch (unit : UnitNo) (timeout : Nat)
  | armMatch (unit : UnitNo)
  | waitActivity (count timeout : Nat)
  | waitQuiet (quiet timeout : Nat)
  | waitHeartbeat (timeout : Nat)
  | delay (duration : Nat)
  | sendKeys (key : KeyNo) (interval : Nat)
  | stopKeys
  | relearnBaud
  | sendBreak (duration : Nat)
  | insertMedia (drive : DriveNo)
  | ejectMedia (drive : DriveNo) (force : Bool)
  | branch (outcome : StepOutcome) (target : Nat)
  | call (recipe : RecipeNo)
  | ret (pass : Bool)
  | finish (code : Nat)
  deriving DecidableEq, Repr

/-- The step a run waits in, with its progress (R147). -/
inductive RunWait where
  | pulse (line : Line)
  | power (on : Bool)
  | unitHit (unit : UnitNo)
  | activity (need counted : Nat)
  | quiet (quiet since : Nat)
  | heartbeat
  | delay (endsAt : Nat)
  | keys
  | breakSent
  deriving DecidableEq, Repr

/-- A return entry of the call stack (R147). -/
structure ReturnEntry where
  recipe : RecipeNo
  step : Nat
  saved : StepOutcome
  deriving DecidableEq, Repr

/-- What started a run (R147). -/
inductive RunSource where
  | host
  | slot (slot : SlotNo)
  deriving DecidableEq, Repr

/-- A RUNNING context (R147). -/
structure Run where
  recipe : RecipeNo
  step : Nat
  outcome : StepOutcome
  wait : Option RunWait
  deadline : Option Nat
  instants : Nat
  /-- The call stack, bottom first. -/
  stack : List ReturnEntry
  source : RunSource
  startedAt : Quad
  deriving DecidableEq, Repr

/-- The results of a run (R147). -/
inductive RunResult where
  | none
  | complete
  | ended (code : Nat)
  | stopped
  | locked
  | reset
  | loop
  | badStep
  deriving DecidableEq, Repr

/-- The run context of a channel: IDLE where `run` is none (R147). -/
structure RunContext where
  run : Option Run
  result : RunResult
  resultAt : Quad
  deriving DecidableEq, Repr

/-! ## Chapter 10: trigger slots and the change report -/

/-- The trigger event kinds (R166). -/
inductive TriggerEvent where
  | hang
  | fast
  | spontaneousOff
  | matched (unit : UnitNo)
  deriving DecidableEq, Repr

/-- The slot states (10.1). -/
inductive SlotState where
  | off
  | armed
  | spent
  deriving DecidableEq, Repr

/-- A trigger slot (10.1). -/
structure TriggerSlot where
  event : TriggerEvent
  recipe : Option RecipeNo
  /-- The holdoff in s. -/
  holdoff : Nat
  limit : Nat
  fires : Nat
  /-- The moment the holdoff remaining reaches 0 (R168); none where it is 0. -/
  holdoffEnd : Option Nat
  lastFire : Option Quad
  state : SlotState
  deriving DecidableEq, Repr

/-- The twelve change flags of a channel (R171), in its order. -/
inductive ChannelFlag where
  | power
  | lock
  | baud
  | data
  | loss
  | matched
  | hang
  | fast
  | runEnd
  | trigger
  | txStall
  | port
  deriving DecidableEq, Repr

/-- The notice mask (R172). The enables stand in the order of R171's table, then WANTS_POSTED and
SPILLS_WAITING. -/
structure NoticeMask where
  enables : Table 17 Bool
  channels : Table 8 Bool
  drives : Table 4 Bool
  deriving DecidableEq, Repr

/-! ## Chapter 11: the link -/

/-- The status codes of a reply (R180), in its order. -/
inductive Status where
  | ok
  | deferred
  | badValue
  | busy
  | locked
  | runActive
  | inUse
  | boundElsewhere
  | wrongState
  | noSpace
  | empty
  | stale
  | floorUnavailable
  deriving DecidableEq, Repr

/-- A reply in the reply queue (R178). -/
structure Reply where
  kind : Byte
  tag : Byte
  status : Status
  body : List Byte
  deriving DecidableEq, Repr

/-- The Management Link. A transaction is one command (log 3), so none is in progress between
commands; what the part shifted out in the last one is kept. -/
structure Link where
  /-- The reply queue, oldest first (R178). -/
  replies : List Reply
  /-- The REJECT indicator (R176). -/
  reject : Bool
  /-- The bytes shifted out on LNK_DOUT in the last transaction, the status byte first. -/
  shiftedOut : List Byte
  /-- MODEL FIELD (log 9): replies formed since reset, the index of the free bytes. -/
  formed : Nat
  deriving DecidableEq, Repr

/-! ## A channel -/

/-- Everything the part keeps for one channel. -/
structure ChannelState where
  power : Power
  finder : Finder
  watch : Watch
  framing : Framing
  store : Store
  tx : Transmitter
  units : Table 4 MatchUnit
  port : Port
  context : RunContext
  slots : Table 4 TriggerSlot
  flags : Table 12 Bool
  deriving DecidableEq, Repr

end Sys2Proof.Machine
end

