-- ==== Sys2Proof/Machine/Operands.lean ====
section
/-! DEFINITION. How operands are read and replies are written (R180): clamping, identifiers and
choices out of range, the widths and codes of the fields of a reply, and the table rates and
divisors of chapter 2. -/

namespace Sys2Proof.Machine

/-! ## Reading operands (4.4, R180) -/

/-- "A numeric setting or duration outside its stated range is clamped to the nearer limit" (4.4). -/
def clamp (lo hi n : Nat) : Nat := max lo (min hi n)

/-- "A value between steps is taken down to the step below" (R31, R39, R101). -/
def stepDown (step n : Nat) : Nat := n / step * step

/-- An identifier of `n` values; none is refused BAD_VALUE (4.4). -/
def ident? (n : Nat) (b : Byte) : Option (Fin n) :=
  if h : b.toNat < n then some ⟨b.toNat, h⟩ else none

/-- A two-valued setting or indicator: 0 or 1, a value above 1 is refused BAD_VALUE (R180). -/
def flag? (b : Byte) : Option Bool :=
  if b = 0 then some false else if b = 1 then some true else none

/-! ## Writing replies (R180) -/

/-- A number in 1 byte. -/
def put1 (n : Nat) : List Byte := [BitVec.ofNat 8 n]

/-- A number in 2 bytes. -/
def put2 (n : Nat) : List Byte := Half.bytes (BitVec.ofNat 16 n)

/-- A number in 4 bytes. -/
def put4 (n : Nat) : List Byte := Quad.bytes (BitVec.ofNat 32 n)

/-- A stream position in 6 bytes. -/
def put6 (n : Nat) : List Byte := Pos48.bytes (BitVec.ofNat 48 n)

/-- "Counts held by the part stop at their top value" (4.4): a count in 2 bytes. -/
def cap2 (n : Nat) : List Byte := put2 (min n 65535)

/-- A count in 4 bytes that stops at its top value. -/
def cap4 (n : Nat) : List Byte := put4 (min n 4294967295)

/-- A two-valued setting or indicator in 1 byte. -/
def putFlag (b : Bool) : List Byte := [if b then 1 else 0]

/-- "An item that may be absent or none is preceded by one byte" (R180); its `width` own bytes are 0
where it is. -/
def putItem (width : Nat) : Option (List Byte) → List Byte
  | none => 0 :: List.replicate width 0
  | some bs => 1 :: bs

/-! ### Codes of choices, numbered from 0 in the order of their rule (R180) -/

/-- Power states (11.6). -/
def PowerState.code : PowerState → Nat
  | .cutHoldoff => 0
  | .cut => 1
  | .off => 2
  | .on => 3

/-- POWER_OFF causes (11.6, R52). -/
def OffCause.code : OffCause → Nat
  | .none => 0
  | .cut => 1
  | .button => 2
  | .reset => 3
  | .spontaneous => 4

/-- Finder states (R32). -/
def FinderState.code : FinderState → Nat
  | .hunting => 0
  | .locked => 1
  | .fixed => 2

/-- The finder mode, AUTO 0 or FIXED 1 (R32). -/
def FinderState.mode : FinderState → Nat
  | .fixed => 1
  | _ => 0

/-- Watch states (R40). -/
def WatchState.code : WatchState → Nat
  | .idle => 0
  | .watching => 1
  | .hung => 2

/-- Origins (R74). -/
def Origin.code : Origin → Nat
  | .host => 0
  | .run => 1

/-- Unit states (R86). -/
def UnitState.code : UnitState → Nat
  | .unset => 0
  | .disarmed => 1
  | .armed => 2
  | .hit => 3

/-- Cache states, in the order of R88. -/
def CacheState.code : CacheState → Nat
  | .filling => 0
  | .clean => 1
  | .dirty => 2
  | .spilling => 3
  | .spillingDirty => 4

/-- Drive states (R122). -/
def DriveState.code : DriveState → Nat
  | .empty => 0
  | .idle => 1
  | .inserted => 2
  | .present => 3
  | .ejectWait => 4
  | .draining => 5

/-- Port states (R123). -/
def PortState.code : PortState → Nat
  | .off => 0
  | .noVbus => 1
  | .attached => 2
  | .configured => 3
  | .suspended => 4

/-- Completion statuses, in the order of R114. -/
def Completion.code : Completion → Nat
  | .good => 0
  | .noMedium => 1
  | .mediumChanged => 2
  | .ejectRequested => 3
  | .outOfRange => 4
  | .writeProtected => 5
  | .notReadyRetry => 6
  | .mediumError => 7
  | .lockedByServer => 8

/-- Kinds of server request, in the order of R114. -/
def RequestKind.code : RequestKind → Nat
  | .queryReady => 0
  | .queryCapacity => 1
  | .readBlocks => 2
  | .writeBlocks => 3
  | .removalLock _ => 4
  | .eject => 5
  | .sync => 6

/-- What a request waits on, in the order of R123; 0 is nothing. -/
def Wait.code : Option Wait → Nat
  | none => 0
  | some (.want ..) => 1
  | some (.wantEntry _) => 2
  | some (.page _) => 3
  | some (.dirtyRoom _) => 4
  | some (.spills ..) => 5
  | some (.held _) => 6

/-- Outcomes (R144, R163). -/
def StepOutcome.code : StepOutcome → Nat
  | .none => 0
  | .met => 1
  | .timedOut => 2
  | .failed => 3

/-- Run results (R147). -/
def RunResult.code : RunResult → Nat
  | .none => 0
  | .complete => 1
  | .ended _ => 2
  | .stopped => 3
  | .locked => 4
  | .reset => 5
  | .loop => 6
  | .badStep => 7

/-- The argument of a RUN_END marker (R52, R162). -/
def RunResult.argument : RunResult → Nat
  | .none => 0
  | .complete => 0
  | .stopped => 1
  | .locked => 2
  | .reset => 3
  | .loop => 4
  | .badStep => 5
  | .ended code => 256 + code

/-- The source of a run: 0 HOST, 1–4 trigger slots 0–3 (R52). -/
def RunSource.code : RunSource → Nat
  | .host => 0
  | .slot i => i.val + 1

/-- Trigger event kinds (R166). -/
def TriggerEvent.code : TriggerEvent → Nat
  | .hang => 0
  | .fast => 1
  | .spontaneousOff => 2
  | .matched _ => 3

/-- Slot states (10.1). -/
def SlotState.code : SlotState → Nat
  | .off => 0
  | .armed => 1
  | .spent => 2

/-- Status codes (R180). -/
def Status.code : Status → Nat
  | .ok => 0
  | .deferred => 1
  | .badValue => 2
  | .busy => 3
  | .locked => 4
  | .runActive => 5
  | .inUse => 6
  | .boundElsewhere => 7
  | .wrongState => 8
  | .noSpace => 9
  | .empty => 10
  | .stale => 11
  | .floorUnavailable => 12

/-- Marker kinds, 1 POWER_ON to 19 TX_FLUSH (11.6). -/
def MarkerKind.code : MarkerKind → Nat
  | .powerOn => 1
  | .powerOff => 2
  | .powerCut => 3
  | .powerSupply => 4
  | .button => 5
  | .resetPulse => 6
  | .baudLock => 7
  | .baudLost => 8
  | .mediaIn => 9
  | .mediaOut => 10
  | .runStart => 11
  | .runEnd => 12
  | .matched => 13
  | .hang => 14
  | .fast => 15
  | .lockOn => 16
  | .lockOff => 17
  | .breakSent => 18
  | .txFlush => 19

/-- The kind number of a recipe step, 1 PRESS BUTTON to 21 END in the order of R144 (11.6). -/
def RecipeStep.code : RecipeStep → Nat
  | .pressButton _ => 1
  | .pulseReset _ => 2
  | .cutPower => 3
  | .supplyPower => 4
  | .waitPower .. => 5
  | .waitMatch .. => 6
  | .armMatch _ => 7
  | .waitActivity .. => 8
  | .waitQuiet .. => 9
  | .waitHeartbeat _ => 10
  | .delay _ => 11
  | .sendKeys .. => 12
  | .stopKeys => 13
  | .relearnBaud => 14
  | .sendBreak _ => 15
  | .insertMedia _ => 16
  | .ejectMedia .. => 17
  | .branch .. => 18
  | .call _ => 19
  | .ret _ => 20
  | .finish _ => 21

/-- The kind number of the step a run waits in (R163). -/
def RunWait.code : RunWait → Nat
  | .pulse .button => 1
  | .pulse .reset => 2
  | .power _ => 5
  | .unitHit _ => 6
  | .activity .. => 8
  | .quiet .. => 9
  | .heartbeat => 10
  | .delay _ => 11
  | .keys => 12
  | .breakSent => 15

/-- A record of the marker list (11.6). -/
def Marker.bytes (m : Marker) : List Byte :=
  put1 m.kind.code ++ put6 m.position ++ m.time.bytes ++ put2 m.argument

/-- A reply frame (R179): kind, tag, status code, body length, body, and the CRC over them. -/
def Reply.bytes (r : Reply) : List Byte :=
  let head := r.kind :: r.tag :: (put1 r.status.code ++ put2 r.body.length ++ r.body)
  head ++ (crc16 head).bytes

/-- The reply an empty queue shifts out (R179). -/
def Reply.ofEmptyQueue : Reply := ⟨0, 0, .ok, []⟩

/-! ## Rates and divisors (R24) -/

/-- The eleven table rates of 2.1. -/
def tableRates : Table 11 Nat :=
  ⟨[1200, 2400, 4800, 9600, 19200, 38400, 57600, 115200, 230400, 460800, 921600], rfl⟩

/-- The table rate of an index. -/
def tableRate (i : RateIx) : Nat := tableRates.get i

/-- D = round(256,000,000 / r), an exact half rounded up (R24). -/
def divisorOf (rate : Nat) : Nat := (2 * 256000000 + rate) / (2 * rate)

/-- The index of 115200, the last locked rate after every reset (R33). -/
def resetRate : RateIx := 7

end Sys2Proof.Machine
end

