-- ==== Sys2Proof/Machine/Resets.lean ====
section
/-! DEFINITION. The values every block's record takes at a power-on reset, a Part Reset and a Channel
Reset, rule by rule (R18, R33, R58, R59, R75, R87, R124, R164, R170, 2.3.4). Markers that a reset's own
effects would write are not built, since the same reset empties the marker list (R58). -/

namespace Sys2Proof.Machine

/-! ## Chapter 1 (R18) -/

/-- The debounce of a level: the moment it began to differ from the qualified one (R2, R11, R34,
R111). -/
def timingFrom (now : Nat) (raw qualified : Bool) : Option Nat := if raw = qualified then none else some now

/-- The Power Controller after a power-on reset (R18). -/
def Power.powerOn (now : Nat) (pins : Pins) : Power where
  state := .off
  holdoffEnd := now
  pendingSupply := false
  pgRaw := pins.pg
  pgQualified := false
  pgSince := timingFrom now pins.pg false
  button := none
  reset := none
  buttonWindowEnd := now
  resetWindowEnd := now
  lockRaw := pins.lock
  locked := pins.lock
  lockSince := none
  lastCause := .none
  lastCauseAt := 0
  qualifyTime := 20
  minimumOff := 5

/-- Both pulses cut short by a reset, each starting its line's attribution window (R8, R9). -/
def Power.pulsesReset (now : Nat) (p : Power) : Power :=
  { p with
    button := none
    reset := none
    buttonWindowEnd := if p.button.isSome then now + Config.attribution * Config.msUnits else p.buttonWindowEnd
    resetWindowEnd := if p.reset.isSome then now + Config.attribution * Config.msUnits else p.resetWindowEnd }

/-- The Power Controller after a Part Reset (R18). A power-good timing in progress is kept, also where it
has lasted the restored qualify time already: a PG_QUALIFIED ends it (log 30). -/
def Power.partReset (now : Nat) (p : Power) : Power :=
  { p.pulsesReset now with lastCause := .none, lastCauseAt := 0, qualifyTime := 20, minimumOff := 5 }

/-- The Power Controller after a Channel Reset (R17). -/
def Power.channelReset (now : Nat) (p : Power) : Power := p.pulsesReset now

/-! ## Chapter 2 (R33, 2.3.4) -/

/-- The finder's settings after a power-on or Part Reset (R31, R33). -/
def FinderSettings.default : FinderSettings := ⟨100, 5, 3, 8, true⟩

/-- The last-window figures until a window has ended (R32). -/
def WindowFigures.start : WindowFigures := ⟨0, none, 0, .none, none⟩

/-- A window begun afresh, its measurements at zero (R22). -/
def Finder.restartWindow (now : Nat) (f : Finder) : Finder :=
  { f with windowStart := now, windowLength := f.settings.window, q := 0, m := none, f := 0 }

/-- The Baud Finder after a power-on reset (R21, R33). -/
def Finder.powerOn (now : Nat) (pins : Pins) : Finder where
  state := .hunting
  fixedRate := 0
  lastLocked := resetRate
  divisor := divisorOf (tableRate resetRate)
  candidate := none
  agreement := 0
  windowStart := now
  windowLength := 100
  q := 0
  m := none
  f := 0
  last := .start
  settings := .default
  rxdRaw := pins.rxd
  rxdLevel := pins.rxd
  edgeAt := none
  runStart := none

/-- The Baud Finder after a Part Reset (R33). -/
def Finder.partReset (now : Nat) (f : Finder) : Finder :=
  Finder.restartWindow now
    { f with
      state := .hunting, fixedRate := 0, lastLocked := resetRate
      divisor := divisorOf (tableRate resetRate)
      candidate := none, agreement := 0, last := .start, settings := .default }

/-- The Baud Finder after a Channel Reset (R33): FIXED stays FIXED at its rate. -/
def Finder.channelReset (now : Nat) (f : Finder) : Finder :=
  Finder.restartWindow now
    { f with
      state := if f.state = .fixed then .fixed else .hunting
      lastLocked := resetRate
      divisor := if f.state = .fixed then divisorOf f.fixedRate else divisorOf (tableRate resetRate)
      candidate := none, agreement := 0, last := .start }

/-- The watch's settings after a power-on or Part Reset (R39). -/
def WatchSettings.default : WatchSettings := ⟨false, 1000, 65535, 1, 3⟩

/-- The watch with its gate opening (R35). -/
def Watch.opened (now : Nat) (w : Watch) : Watch :=
  { w with
    state := .watching, count := 0, windowStart := now, windowLength := w.settings.window
    lowStreak := 0, fastRaised := false }

/-- The watch with its gate closing (R35). -/
def Watch.closed (w : Watch) : Watch :=
  { w with state := .idle, count := 0, lowStreak := 0, fastRaised := false }

/-- The Heartbeat Watch after a power-on reset (R34, 2.3.4). -/
def Watch.powerOn (now : Nat) (pins : Pins) : Watch where
  raw := pins.hb
  qualified := pins.hb
  since := none
  state := .idle
  count := 0
  windowStart := now
  windowLength := 1000
  held := 0
  heldAt := 0
  lowStreak := 0
  fastRaised := false
  settings := .default

/-- The Heartbeat Watch after a Part Reset (2.3.4). -/
def Watch.partReset (w : Watch) : Watch := { w.closed with held := 0, heldAt := 0, settings := .default }

/-- The Heartbeat Watch after a Channel Reset: watching again at once if the gate is open (2.3.4). -/
def Watch.channelReset (now : Nat) (powered : Bool) (w : Watch) : Watch :=
  let w' := { w.closed with held := 0, heldAt := 0 }
  if w'.settings.enable && powered then w'.opened now else w'

/-! ## Chapter 3 (R58, R59) -/

/-- WAIT_HIGH, left at once where the filtered line is high (R41, R59). -/
def Framing.waitHighAt (level : Bool) : Framing := if level then .waitStart else .waitHigh

/-- The Capture Store emptied, with the floor and ceiling given (R58). -/
def Store.empty (floor ceiling : Nat) : Store := ⟨[], 0, 0, [], floor, ceiling⟩

/-! ## Chapter 4 (R75) -/

/-- The transmitter after a power-on reset (R75). -/
def Transmitter.powerOn (pins : Pins) : Transmitter where
  char := none
  queue := []
  slot := none
  brk := none
  hold := none
  rtr := pins.rtr
  flow := false
  stallLimit := 10
  settling := false

/-- The transmitter after a Channel Reset (R75). -/
def Transmitter.channelReset (t : Transmitter) : Transmitter :=
  { t with char := none, queue := [], slot := none, brk := none, hold := none, settling := false }

/-- The transmitter after a Part Reset (R75). -/
def Transmitter.partReset (t : Transmitter) : Transmitter :=
  { t.channelReset with flow := false, stallLimit := 10 }

/-! ## Chapter 5 (R87) -/

/-- A match unit after a power-on or Part Reset (R87). -/
def MatchUnit.reset : MatchUnit := ⟨[], false, false, .unset, 0, false, 0⟩

/-- A match unit after a Channel Reset (R87). -/
def MatchUnit.channelReset (u : MatchUnit) : MatchUnit :=
  { u with state := if u.state = .unset then .unset else .disarmed, hits := 0, pending := false, progress := 0 }

/-! ## Chapter 7 (R124) -/

/-- A drive as power-on reset and Part Reset create it (R124); its page map is empty (R143). -/
def Drive.reset : Drive := ⟨.empty, none, none, false, false, [], [], false, false⟩

/-- ATTACHED if VBUS is qualified present, NO_VBUS otherwise (R111). -/
def PortState.byVbus (vbus : Bool) : PortState := if vbus then .attached else .noVbus

/-- The Media Port after a power-on reset (R124). -/
def Port.powerOn (pins : Pins) : Port where
  presence := true
  vbusRaw := pins.vbus
  vbus := pins.vbus
  vbusSince := none
  state := .byVbus pins.vbus
  removalLock := false
  remoteWake := false
  request := none
  handed := ⟨[], none⟩
  last := none

/-- A completion formed at the port (R114): given at once, or held while SUSPENDED (R112). -/
def Port.complete (time : Quad) (status : Completion) (p : Port) : Port :=
  match p.request with
  | none => p
  | some r =>
    if p.state = .suspended then { p with request := some { r with wait := some (.held status) } }
    else { p with request := none, last := some ⟨status, r.done, time⟩ }

/-- The request in progress ended with a status, unless its completion is already held (R107, R112,
R124). -/
def Port.endRequest (time : Quad) (status : Completion) (p : Port) : Port :=
  match p.request with
  | none => p
  | some r =>
    match r.wait with
    | some (.held _) => p
    | _ => p.complete time status

/-- The Media Port after a Part Reset (R124). -/
def Port.partReset (time : Quad) (p : Port) : Port :=
  let p' := p.endRequest time .noMedium
  { p' with
    presence := true, removalLock := false
    state := if p'.state = .off then .byVbus p'.vbus else p'.state }

/-! ## Chapter 9 (R164) -/

/-- The run context after a power-on reset (R164). -/
def RunContext.powerOn : RunContext := ⟨none, .none, 0⟩

/-- The run context after a Part Reset; the uptime has restarted (R164). -/
def RunContext.partReset (c : RunContext) : RunContext :=
  ⟨none, if c.run.isSome then .reset else .none, 0⟩

/-- The run context after a Channel Reset (R164). -/
def RunContext.channelReset (time : Quad) (c : RunContext) : RunContext :=
  if c.run.isSome then ⟨none, .reset, time⟩ else c

/-! ## Chapter 10 (R170, R172) -/

/-- A trigger slot after a power-on or Part Reset (R170). -/
def TriggerSlot.reset : TriggerSlot := ⟨.hang, none, 300, 3, 0, none, none, .off⟩

/-- A trigger slot after a Channel Reset (R170). -/
def TriggerSlot.channelReset (t : TriggerSlot) : TriggerSlot :=
  { t with state := if t.state = .spent then .armed else t.state, fires := 0 }

/-- The notice mask after a power-on or Part Reset (R172). -/
def NoticeMask.reset : NoticeMask :=
  ⟨Table.replicate 17 false, Table.replicate 8 true, Table.replicate 4 true⟩

/-- The flags of a channel, all clear (R174). -/
def noFlags : Table 12 Bool := Table.replicate 12 false

/-! ## A channel -/

/-- A channel after a power-on reset. -/
def ChannelState.powerOn (now : Nat) (pins : Pins) : ChannelState where
  power := .powerOn now pins
  finder := .powerOn now pins
  watch := .powerOn now pins
  framing := .waitHighAt pins.rxd
  store := .empty 8 32
  tx := .powerOn pins
  units := Table.replicate 4 .reset
  port := .powerOn pins
  context := .powerOn
  slots := Table.replicate 4 .reset
  flags := noFlags

/-- A channel after a Part Reset, with the uptime restarted at 0. -/
def ChannelState.partReset (now : Nat) (c : ChannelState) : ChannelState where
  power := c.power.partReset now
  finder := c.finder.partReset now
  watch := c.watch.partReset
  framing := .waitHighAt c.finder.rxdLevel
  store := .empty 8 32
  tx := c.tx.partReset
  units := Table.replicate 4 .reset
  port := c.port.partReset 0
  context := c.context.partReset
  slots := Table.replicate 4 .reset
  flags := noFlags

/-- A channel after a Channel Reset. The drives and the Media Port are not touched (R124), and the
change flags are kept (R174); a run that it ends raises RUN_END (R162, R164). -/
def ChannelState.channelReset (now : Nat) (time : Quad) (c : ChannelState) : ChannelState where
  power := c.power.channelReset now
  finder := c.finder.channelReset now
  watch := c.watch.channelReset now (c.power.state = .on)
  framing := .waitHighAt c.finder.rxdLevel
  store := .empty c.store.floor c.store.ceiling
  tx := c.tx.channelReset
  units := c.units.map MatchUnit.channelReset
  port := c.port
  context := c.context.channelReset time
  slots := c.slots.map TriggerSlot.channelReset
  flags := if c.context.run.isSome then c.flags.set 8 true else c.flags

/-- DESIGN CHOICE (log 4): the input levels that `State.reset` takes as sampled, all low. -/
def lowPins : Pins := ⟨false, false, false, false, false, false⟩

end Sys2Proof.Machine
end

