-- ==== Sys2Proof/Machine/State.lean ====
section
/-! DEFINITION. The state of the whole part (1.3 of spec/00_scope.md), its faults and refusals, and the
state right after a power-on reset. -/

namespace Sys2Proof.Machine

/-- No command of this part stops it: the spec gives every row an effect, and an event that cannot
occur in the state found changes nothing (log 6). So there is no fault to raise. -/
inductive Fault where
  deriving DecidableEq, Repr

/-- The refusals. -/
inductive Refusal where
  /-- A command that has no meaning yet, by its mnemonic. Raised by `exec` alone; safe: nothing is
  claimed of such a command. No arm of `exec` raises it. -/
  | notModelled (mnemonic : String)
  deriving DecidableEq, Repr

/-- The state of the part. -/
structure State where
  /-- MODEL FIELD (log 1): the clock, in quarters of a measurement-clock tick; it never goes back. -/
  now : Nat
  /-- The moment the uptime counter last restarted at 0 (4.3, R182). -/
  epoch : Nat
  /-- The eight channels. -/
  channels : Table 8 ChannelState
  /-- The four virtual drives with their page maps (R101, R125). -/
  drives : Table 4 Drive
  /-- The clean LRU list, oldest first (R89). -/
  cleanList : List PageRef
  /-- The page waiter list, oldest first (R96). -/
  pageWaiters : List PageWaiter
  /-- The Want Table, oldest first (R129). -/
  wants : List Want
  /-- The want-number counter (R129). -/
  wantCounter : Byte
  /-- The want-entry waiter list, oldest first (R134). -/
  entryWaiters : List Waiter
  /-- The Spill Queue, head first (R137). -/
  spillQueue : List PageRef
  /-- The spill-in-flight table (R138). -/
  spills : List Spill
  /-- The spill-number counter (R138). -/
  spillCounter : Byte
  /-- The Recipe Table (R144). -/
  recipes : Table 8 (List RecipeStep)
  /-- The Key String Table; an entry that holds no string is the empty list (R145). -/
  keys : Table 8 (List Byte)
  /-- The RESTARTED flag (R171). -/
  restarted : Bool
  /-- The notice mask (R172). -/
  mask : NoticeMask
  /-- The Management Link (chapter 11). -/
  link : Link
  /-- The commands that are waiting, first in, first out. -/
  pending : List Instr
  deriving DecidableEq, Repr

/-- The link after a power-on reset (R182). -/
def Link.powerOn : Link := ⟨[], false, [], 0⟩

/-- The part right after a power-on reset with the input pins as given, the clock standing at `now`
(R18, R33, R58, R75, R87, R100, R124, R143, R164, R170, R174, R182). -/
def State.powerOn (now : Nat) (pins : Table 8 Pins) : State where
  now := now
  epoch := now
  channels := pins.map (ChannelState.powerOn now)
  drives := Table.replicate 4 .reset
  cleanList := []
  pageWaiters := []
  wants := []
  wantCounter := 0
  entryWaiters := []
  spillQueue := []
  spills := []
  spillCounter := 0
  recipes := Table.replicate 8 []
  keys := Table.replicate 8 []
  restarted := true
  mask := .reset
  link := .powerOn
  pending := []

/-- The machine right after reset: a power-on reset with every input pin sampled low (log 4). -/
def State.reset : State := .powerOn 0 (Table.replicate 8 lowPins)

end Sys2Proof.Machine
end

