-- ==== Sys2Proof/Machine/Ops.lean ====
section
/-! DEFINITION. The operations every block is built on: reading and replacing one channel's or one
drive's record, the clock, markers, and the levels that follow from stored state. -/

namespace Sys2Proof.Machine

/-! ## One channel's and one drive's records -/

/-- The record of a channel. -/
def State.chan (s : State) (c : Channel) : ChannelState := s.channels.get c

/-- One channel's record changed. -/
def modChan (c : Channel) (f : ChannelState → ChannelState) (s : State) : State :=
  { s with channels := s.channels.set c (f (s.chan c)) }

/-- The record of a drive. -/
def State.drive (s : State) (d : DriveNo) : Drive := s.drives.get d

/-- One drive's record changed. -/
def modDrive (d : DriveNo) (f : Drive → Drive) (s : State) : State :=
  { s with drives := s.drives.set d (f (s.drive d)) }

/-- The Power Controller of one channel changed. -/
def modPower (c : Channel) (f : Power → Power) : State → State :=
  modChan c fun x => { x with power := f x.power }

/-- The Baud Finder of one channel changed. -/
def modFinder (c : Channel) (f : Finder → Finder) : State → State :=
  modChan c fun x => { x with finder := f x.finder }

/-- The Heartbeat Watch of one channel changed. -/
def modWatch (c : Channel) (f : Watch → Watch) : State → State :=
  modChan c fun x => { x with watch := f x.watch }

/-- The receiver's framing state of one channel replaced. -/
def setFraming (c : Channel) (v : Framing) : State → State :=
  modChan c fun x => { x with framing := v }

/-- The Capture Store of one channel changed. -/
def modStore (c : Channel) (f : Store → Store) : State → State :=
  modChan c fun x => { x with store := f x.store }

/-- The transmitter of one channel changed. -/
def modTx (c : Channel) (f : Transmitter → Transmitter) : State → State :=
  modChan c fun x => { x with tx := f x.tx }

/-- One match unit of one channel changed. -/
def modUnit (c : Channel) (u : UnitNo) (f : MatchUnit → MatchUnit) : State → State :=
  modChan c fun x => { x with units := x.units.set u (f (x.units.get u)) }

/-- The Media Port of one channel changed. -/
def modPort (c : Channel) (f : Port → Port) : State → State :=
  modChan c fun x => { x with port := f x.port }

/-- The run context of one channel changed. -/
def modContext (c : Channel) (f : RunContext → RunContext) : State → State :=
  modChan c fun x => { x with context := f x.context }

/-- One trigger slot of one channel changed. -/
def modSlot (c : Channel) (i : SlotNo) (f : TriggerSlot → TriggerSlot) : State → State :=
  modChan c fun x => { x with slots := x.slots.set i (f (x.slots.get i)) }

/-- A match unit of a channel. -/
def State.unit (s : State) (c : Channel) (u : UnitNo) : MatchUnit := (s.chan c).units.get u

/-- A trigger slot of a channel. -/
def State.slot (s : State) (c : Channel) (i : SlotNo) : TriggerSlot := (s.chan c).slots.get i

/-- The run of a channel, none in an IDLE context (R147). -/
def State.run (s : State) (c : Channel) : Option Run := (s.chan c).context.run

/-! ## The clock (4.3; log 1) -/

/-- The uptime: milliseconds since the last reset of the counter, 32 bits wide (4.3). -/
def State.uptime (s : State) : Quad := BitVec.ofNat 32 ((s.now - s.epoch) / Config.msUnits)

/-- The clock carried on to a moment, where it has not passed it (log 5). -/
def State.advanceTo (t : Nat) (s : State) : State := { s with now := max s.now t }

/-- The clock carried on by a number of measurement-clock ticks. -/
def State.advanceTicks (n : Nat) (s : State) : State := { s with now := s.now + n * Config.tickUnits }

/-- The moment `ms` milliseconds from now. -/
def State.after (s : State) (ms : Nat) : Nat := s.now + ms * Config.msUnits

/-- A deadline "formed by adding a time to the uptime" (4.3): the moment the uptime reaches the sum. -/
def State.deadline (s : State) (ms : Nat) : Nat :=
  s.epoch + ((s.now - s.epoch) / Config.msUnits + ms) * Config.msUnits

/-- Whole milliseconds since a moment, rounded down. -/
def State.elapsed (s : State) (since : Nat) : Nat := (s.now - since) / Config.msUnits

/-- Milliseconds left to a moment, 0 once it is reached (log 8: a part of a millisecond counts). -/
def State.remaining (s : State) (moment : Nat) : Nat :=
  (moment - s.now + (Config.msUnits - 1)) / Config.msUnits

/-! ## Levels that follow from stored state -/

/-- Sn_PEN is released in CUT_HOLDOFF and CUT and asserted in OFF and ON (R1). -/
def PowerState.pen : PowerState → Bool
  | .cutHoldoff => false
  | .cut => false
  | .off => true
  | .on => true

/-- The pulse record of a line; its output is asserted while the record is active (R1, R7). -/
def Power.pulse (p : Power) : Line → Option Pulse
  | .button => p.button
  | .reset => p.reset

/-- The pulse record of a line replaced. -/
def Power.setPulse (l : Line) (r : Option Pulse) (p : Power) : Power :=
  match l with
  | .button => { p with button := r }
  | .reset => { p with reset := r }

/-- The end of a line's attribution window (R9). -/
def Power.windowEnd (p : Power) : Line → Nat
  | .button => p.buttonWindowEnd
  | .reset => p.resetWindowEnd

/-- The attribution window of a line set (R9). -/
def Power.setWindowEnd (l : Line) (t : Nat) (p : Power) : Power :=
  match l with
  | .button => { p with buttonWindowEnd := t }
  | .reset => { p with resetWindowEnd := t }

/-- The power state is ON: the gate of the watch and of the transmitter (R35, R72). -/
def State.powered (s : State) (c : Channel) : Bool := (s.chan c).power.state = .on

/-- A run is RUNNING on the channel. -/
def State.running (s : State) (c : Channel) : Bool := (s.run c).isSome

/-- The channel's service lock is qualified LOCKED (R11). -/
def State.isLocked (s : State) (c : Channel) : Bool := (s.chan c).power.locked

/-! ## Markers (R51) -/

/-- A marker list with one more marker: "if the list already holds 64 markers, the oldest is dropped
first" (R51). -/
def pushMarker (m : Marker) (l : List Marker) : List Marker :=
  (if l.length < Config.markerDepth then l else l.drop (l.length - (Config.markerDepth - 1))) ++ [m]

/-- A marker created on a channel: at the value of next, at the current uptime (R51). -/
def marker (c : Channel) (k : MarkerKind) (argument : Nat) (s : State) : State :=
  modStore c (fun st => { st with markers := pushMarker ⟨k, st.next, s.uptime, argument⟩ st.markers }) s

end Sys2Proof.Machine
end

