-- ==== Sys2Proof/Machine/Flags.lean ====
section
/-! DEFINITION. The Change Report (10.3): change flags, level conditions, the notice mask and LNK_ATTN. -/

namespace Sys2Proof.Machine

/-- The place of a channel flag in R171's list. -/
def ChannelFlag.index : ChannelFlag → Fin 12
  | .power => 0
  | .lock => 1
  | .baud => 2
  | .data => 3
  | .loss => 4
  | .matched => 5
  | .hang => 6
  | .fast => 7
  | .runEnd => 8
  | .trigger => 9
  | .txStall => 10
  | .port => 11

/-- A channel flag raised: "a flag already set stays set" (R171). -/
def raise (c : Channel) (k : ChannelFlag) : State → State :=
  modChan c fun x => { x with flags := x.flags.set k.index true }

/-- The drive's DRIVE flag raised (R171). -/
def raiseDrive (d : DriveNo) : State → State := modDrive d fun x => { x with driveFlag := true }

/-- The drive's SERVER_EJECT flag raised (R120, R171). -/
def raiseServerEject (d : DriveNo) : State → State := modDrive d fun x => { x with serverEjectFlag := true }

/-- The level condition WANTS_POSTED (R129, R171). -/
def State.wantsPosted (s : State) : Bool := s.wants.any fun w => !w.taken

/-- The level condition SPILLS_WAITING (R137, R171). -/
def State.spillsWaiting (s : State) : Bool := !s.spillQueue.isEmpty

/-- A channel flag is set, its kind is enabled and its channel is selected (R172). -/
def attnChannels (s : State) : Bool :=
  (List.finRange 8).any fun c =>
    s.mask.channels.get c &&
      ((s.chan c).flags.entries.zip s.mask.enables.entries).any fun fe => fe.1 && fe.2

/-- A drive flag is set, its kind is enabled and its drive is selected (R172). -/
def attnDrives (s : State) : Bool :=
  (List.finRange 4).any fun d =>
    s.mask.drives.get d &&
      ((s.drive d).driveFlag && s.mask.enables.get 12 ||
        (s.drive d).serverEjectFlag && s.mask.enables.get 13)

/-- LNK_ATTN is asserted (R172). -/
def State.attn (s : State) : Bool :=
  attnChannels s || attnDrives s || s.restarted && s.mask.enables.get 14 ||
    s.wantsPosted && s.mask.enables.get 15 || s.spillsWaiting && s.mask.enables.get 16

/-- Every change flag cleared (R173, R174). -/
def clearFlags (s : State) : State :=
  { s with
    channels := s.channels.map fun c => { c with flags := noFlags }
    drives := s.drives.map fun d => { d with driveFlag := false, serverEjectFlag := false }
    restarted := false }

end Sys2Proof.Machine
end

