-- ==== Sys2Proof/Machine/Link.lean ====
section
/-! DEFINITION. The Management Link (chapter 11): the status byte, a request frame taken and answered,
and a frame discarded. A transaction is one command (log 3). -/

namespace Sys2Proof.Machine

/-- What a request's owning rule answers: a status and the reply's body (R178). -/
structure Answer where
  status : Status
  body : List Byte := []

/-- A request's effect on the state, with its answer. -/
abbrev Handler := State → State × Answer

/-- A refusal or any other answer that leaves the state as it is. -/
def answers (st : Status) (body : List Byte := []) : Handler := fun s => (s, ⟨st, body⟩)

/-- An effect answered OK with a body formed after it. -/
def done (s : State) (body : List Byte := []) : State × Answer := (s, ⟨.ok, body⟩)

/-- READY: the reply queue holds fewer than 8 replies (R176). -/
def State.ready (s : State) : Bool := s.link.replies.length < Config.replyDepth

/-- The status byte as it is formed when LNK_SEL falls (R176). -/
def State.statusByte (s : State) : Byte :=
  (if s.ready then 1 else 0) + (if s.link.replies.isEmpty then 0 else 2) +
    (if s.attn then 4 else 0) + (if s.link.reject then 8 else 0)

/-- A transaction that shifts out the whole status byte and then `rest`: a REJECT shown by the status
byte is cleared by it (R176). -/
def shiftOut (rest : List Byte) (s : State) : State :=
  { s with link := { s.link with shiftedOut := s.statusByte :: rest, reject := false } }

/-- A request frame discarded: it sets REJECT and changes nothing else (R177). -/
def discard (s : State) : State := { s with link := { s.link with reject := true } }

/-- A reply formed and appended at the newest end of the queue (R178). -/
def appendReply (r : Reply) (s : State) : State :=
  { s with link := { s.link with replies := s.link.replies ++ [r], formed := s.link.formed + 1 } }

/-- The k-th byte of the reply being formed that the spec does not state (log 9). -/
def State.unstated (s : State) (k : Nat) : Byte := Config.unstatedByte s.link.formed k

/-- The first `n` such bytes of the reply being formed, for a field whose value the spec does not state (log
9). -/
def State.unstatedBytes (s : State) (n : Nat) : List Byte := (List.range n).map s.unstated

/-- A request write of a frame whose checks 2 to 5 of R177 have passed: the status byte is shifted out;
with READY clear in it the frame is ignored and sets REJECT; otherwise the request is taken, the
owning rule `h` acts and answers, and the reply is appended with the request's kind and tag. -/
def takeFrame (f : RequestFrame) (h : Handler) (s : State) : State :=
  let shifted := shiftOut (List.replicate (6 + f.body.length) 0) s
  if s.ready && fitsFrame f.body.length then
    let r := h shifted
    appendReply ⟨f.kind, f.tag, r.2.status, r.2.body⟩ r.1
  else discard shifted

/-- A host request, as one command: the request write of its own frame (R177, R178). -/
def takeRequest (i : Instr) (h : Handler) (s : State) : State :=
  match i.request? with
  | some f => takeFrame f h s
  | none => s

/-- A handler for a request that names a channel: an identifier out of range is refused BAD_VALUE
(4.4). -/
def onChannel (b : Byte) (h : Channel → Handler) : Handler := fun s =>
  match ident? 8 b with
  | none => answers .badValue [] s
  | some c => h c s

/-- A handler for a request that names a drive (4.4). -/
def onDrive (b : Byte) (h : DriveNo → Handler) : Handler := fun s =>
  match ident? 4 b with
  | none => answers .badValue [] s
  | some d => h d s

/-- A handler for a request that carries a two-valued setting: a value above 1 is refused BAD_VALUE
(R180). -/
def onFlag (b : Byte) (h : Bool → Handler) : Handler := fun s =>
  match flag? b with
  | none => answers .badValue [] s
  | some v => h v s

end Sys2Proof.Machine
end

