-- ==== Sys2Proof/Machine/Pool.lean ====
section
/-! DEFINITION. The Staging Pool and the Block Cache (chapters 6 and 8): page maps, the clean LRU list,
the floor guarantee, takes and evictions, wants and readahead, and a server request carried on page by
page until it waits or completes. Pages have no identity (R88, log 13): a page is an entry of a capture
page list or of a page map, and the free pages are the rest of the 512. -/

namespace Sys2Proof.Machine

/-! ## Geometry (R102) -/

/-- Blocks per page: 4096 divided by the block size (R102). -/
def Descriptor.blocksPerPage (d : Descriptor) : Nat := Config.pageBytes / d.blockSize

/-- Image pages: the capacity divided by blocks per page, rounded up (R102). -/
def Descriptor.imagePages (d : Descriptor) : Nat :=
  (d.capacity + d.blocksPerPage - 1) / d.blocksPerPage

/-- Valid blocks of the last page (R102). -/
def Descriptor.lastValid (d : Descriptor) : Nat := d.capacity - (d.imagePages - 1) * d.blocksPerPage

/-- Valid blocks of an image page (R102). -/
def Descriptor.valid (d : Descriptor) (page : Nat) : Nat :=
  if page + 1 = d.imagePages then d.lastValid else d.blocksPerPage

/-! ## Page maps (R125), in rising order of image page index -/

/-- The entry of an image page; none where the page is absent (R125). -/
def mapFind (i : Nat) : List CachePage → Option CachePage
  | [] => none
  | p :: rest => if p.index = i then some p else mapFind i rest

/-- An entry added, or the entry of its image page replaced, keeping the order. -/
def mapPut (p : CachePage) : List CachePage → List CachePage
  | [] => [p]
  | q :: rest =>
    if p.index < q.index then p :: q :: rest
    else if p.index = q.index then p :: rest
    else q :: mapPut p rest

/-- The entry of an image page removed. -/
def mapErase (i : Nat) : List CachePage → List CachePage
  | [] => []
  | p :: rest => if p.index = i then rest else p :: mapErase i rest

/-- The one form of a page map: image page indices strictly rising, so at most one page for each (R125). -/
def mapWf : List CachePage → Bool
  | [] => true
  | [_] => true
  | p :: q :: rest => p.index < q.index && mapWf (q :: rest)

/-- Entries in a cache state. -/
def countState (st : CacheState) (m : List CachePage) : Nat := m.countP fun p => p.state = st

/-- A drive's dirty count: its DIRTY, SPILLING and SPILLING_DIRTY pages (R136). -/
def Drive.dirtyCount (d : Drive) : Nat :=
  countState .dirty d.map + countState .spilling d.map + countState .spillingDirty d.map

/-- The entry of an image page of a drive. -/
def State.page (s : State) (d : DriveNo) (i : Nat) : Option CachePage := mapFind i (s.drive d).map

/-- An entry put into a drive's map. -/
def putPage (d : DriveNo) (p : CachePage) : State → State :=
  modDrive d fun x => { x with map := mapPut p x.map }

/-- An entry removed from a drive's map: the page becomes FREE, or is taken by what evicts it. -/
def dropPage (d : DriveNo) (i : Nat) : State → State :=
  modDrive d fun x => { x with map := mapErase i x.map }

/-! ## The floor guarantee (R90) -/

/-- A sum over the channels. -/
def State.sumChannels (s : State) (f : ChannelState → Nat) : Nat := (s.channels.entries.map f).sum

/-- Pages in all channels' capture page lists. -/
def State.consolePages (s : State) : Nat := s.sumChannels fun c => c.store.pages.length

/-- Pages in all drives' page maps. -/
def State.cachePages (s : State) : Nat := (s.drives.entries.map fun d => d.map.length).sum

/-- FREE pages: the free, console and cache pages sum to 512 (R88). -/
def State.freePages (s : State) : Nat := Config.poolPages - (s.consolePages + s.cachePages)

/-- CLEAN pages: the clean LRU list holds every one of them once (R89). -/
def State.cleanPages (s : State) : Nat := s.cleanList.length

/-- The reclaimable count (R90). -/
def State.reclaimable (s : State) : Nat := s.freePages + s.cleanPages

/-- A channel's share of the unmet floor total: max(0, floor − held) (R90). -/
def Store.share (st : Store) : Nat := st.floor - st.pages.length

/-- The unmet floor total U (R90). -/
def State.unmet (s : State) : Nat := s.sumChannels fun c => c.store.share

/-- The margin (R90). -/
def State.margin (s : State) : Nat := s.reclaimable - s.unmet

/-- The pool check: free + clean − 1 ≥ U (R90). -/
def State.poolCheck (s : State) : Bool := s.unmet + 1 ≤ s.reclaimable

/-! ## Taking a page (R91) -/

/-- The page at the oldest end of the clean LRU list evicted (R91). -/
def evict (s : State) : State :=
  match s.cleanList with
  | [] => s
  | r :: rest => dropPage r.drive r.index { s with cleanList := rest }

/-- Room for one page made: a FREE page if one exists, else an eviction (R91). -/
def takePage (s : State) : State := if s.freePages = 0 then evict s else s

/-- A page leaves the clean LRU list (R89). -/
def unlist (d : DriveNo) (i : Nat) (s : State) : State :=
  { s with cleanList := s.cleanList.filter fun r => r ≠ ⟨d, i⟩ }

/-- A page joins the clean LRU list, or moves in it, to the newest end (R89). -/
def touch (d : DriveNo) (i : Nat) (s : State) : State :=
  let s' := unlist d i s
  { s' with cleanList := s'.cleanList ++ [⟨d, i⟩] }

/-! ## Bytes of a page -/

/-- Bytes `off` to `off + n − 1` of a page. -/
def slice (off n : Nat) (data : List Byte) : List Byte := (data.drop off).take n

/-- A page's bytes with `new` written over them from `off`. -/
def splice (off : Nat) (new data : List Byte) : List Byte :=
  data.take off ++ new ++ data.drop (off + new.length)

/-- A page whose valid blocks are `data`, the bytes beyond set to zero (R131, R135). -/
def padPage (data : List Byte) : List Byte := data ++ List.replicate (Config.pageBytes - data.length) 0

/-- `n` bytes of a WRITE BLOCKS' data from `off`; a byte the command did not carry is free (log 10). -/
def sentBytes (off : Nat) (data : List Byte) : Nat → List Byte
  | 0 => []
  | n + 1 => data.getD off (Config.unsentByte off) :: sentBytes (off + 1) data n

/-! ## The request in progress -/

/-- The request in progress at a port. -/
def State.request (s : State) (c : Channel) : Option Request := (s.chan c).port.request

/-- The request in progress changed. -/
def modRequest (c : Channel) (f : Request → Request) : State → State :=
  modPort c fun p => { p with request := p.request.map f }

/-- The request waits (R114). -/
def setWait (c : Channel) (w : Option Wait) : State → State := modRequest c fun r => { r with wait := w }

/-- The request in progress completes (R114, R112). -/
def complete (c : Channel) (st : Completion) (s : State) : State :=
  modPort c (Port.complete s.uptime st) s

/-- The request of a channel leaves whatever list it waits on: a want's waiters, the want-entry waiters,
the page waiter list, a drive's dirty waiters (R107 step 2). -/
def withdraw (c : Channel) (s : State) : State :=
  { s with
    wants := s.wants.map fun w => { w with waiters := w.waiters.filter (· ≠ c) }
    entryWaiters := s.entryWaiters.filter fun w => w.channel ≠ c
    pageWaiters := s.pageWaiters.filter fun w => w.channel ≠ c
    drives := s.drives.map fun d => { d with dirtyWaiters := d.dirtyWaiters.filter fun w => w.channel ≠ c } }

/-- A waiting request ends with a status, leaving the list it waits on; a held completion stands (R107). -/
def endRequest (c : Channel) (st : Completion) (s : State) : State :=
  s |> withdraw c |> modPort c (Port.endRequest s.uptime st)

/-- A descriptor that stands for a drive without one; no request reaches a drive without a descriptor. -/
def Descriptor.nothing : Descriptor := ⟨512, 1, false, 1, 0, 100, 100⟩

/-- The descriptor of a drive. -/
def State.descriptor (s : State) (d : DriveNo) : Descriptor := (s.drive d).descriptor.getD .nothing

/-- The drive bound to a channel, at most one (R103). -/
def State.boundDrive (s : State) (c : Channel) : Option DriveNo :=
  (List.finRange 4).find? fun d => (s.drive d).bound = some c

/-! ## Waits (R96, R134, R136) -/

/-- The request joins the newest end of the page waiter list (R96). -/
def joinPageWaiters (c : Channel) (d : DriveNo) (i : Nat) (n : Need) (s : State) : State :=
  let w : PageWaiter := ⟨c, d, i, n, s.uptime, s.deadline (s.descriptor d).fillTimeout⟩
  { s with pageWaiters := s.pageWaiters ++ [w] } |> setWait c (some (.page s.uptime))

/-- The request joins the newest end of the want-entry waiter list (R134). -/
def joinEntryWaiters (c : Channel) (d : DriveNo) (i : Nat) (s : State) : State :=
  let w : Waiter := ⟨c, d, i, s.uptime, s.deadline (s.descriptor d).fillTimeout⟩
  { s with entryWaiters := s.entryWaiters ++ [w] } |> setWait c (some (.wantEntry s.uptime))

/-- The request joins the newest end of the drive's dirty waiter list (R136). -/
def joinDirtyWaiters (c : Channel) (d : DriveNo) (i : Nat) (s : State) : State :=
  let w : Waiter := ⟨c, d, i, s.uptime, s.deadline (s.descriptor d).fillTimeout⟩
  s |> modDrive d (fun x => { x with dirtyWaiters := x.dirtyWaiters ++ [w] })
    |> setWait c (some (.dirtyRoom s.uptime))

/-- The want of a FILLING page (R129). -/
def State.wantOf (s : State) (d : DriveNo) (i : Nat) : Option Want :=
  s.wants.find? fun w => w.drive = d && w.page = i

/-- The request joins the newest end of a page's want's waiters (R134). -/
def joinWant (c : Channel) (d : DriveNo) (i : Nat) (s : State) : State :=
  match s.wantOf d i with
  | none => s
  | some w =>
    { s with
      wants := s.wants.map fun x =>
        if x.drive = d ∧ x.page = i then { x with waiters := x.waiters ++ [c] } else x }
      |> setWait c (some (.want w.number s.uptime (s.deadline (s.descriptor d).fillTimeout)))

/-! ## Wants (R127 to R129) -/

/-- The first number from `n` on, counting on from 255 to 0, that is not in use; `fuel` numbers are
tried (R129, R138). -/
def freeNumber (used : List Byte) : Nat → Byte → Byte
  | 0, n => n
  | fuel + 1, n => if n ∈ used then freeNumber used fuel (n + 1) else n

/-- A want created for an absent page: a FILLING page is taken and enters the map, and the want enters
the table POSTED with the waiters given (R93, R129). -/
def createWant (d : DriveNo) (i : Nat) (waiters : List Channel) (s : State) : State :=
  let n := freeNumber (s.wants.map (·.number)) 33 s.wantCounter
  let w : Want :=
    ⟨n, d, i, (s.descriptor d).valid i, false, s.deadline (s.descriptor d).fillTimeout, waiters⟩
  let s' := s |> takePage |> putPage d ⟨i, .filling, []⟩
  { s' with wants := s'.wants ++ [w], wantCounter := n + 1 }

/-- Readahead over the pages from `i` on, at most `n` of them (R128): it ends beyond the last image page
or where an entry margin of 5 or the pool check fails; a page present is passed over. -/
def readahead (d : DriveNo) : Nat → Nat → State → State
  | 0, _, s => s
  | n + 1, i, s =>
    if (s.descriptor d).imagePages ≤ i then s
    else if (s.page d i).isSome then readahead d n (i + 1) s
    else if s.wants.length + 5 ≤ Config.wantEntries && s.poolCheck then
      readahead d n (i + 1) (createWant d i [] s)
    else s

/-- A demand want for an absent page on behalf of a request (R127): a Want Table entry first, then a pool
page; readahead follows its creation (R128). -/
def demandWant (c : Channel) (d : DriveNo) (i : Nat) (s : State) : State :=
  if Config.wantEntries ≤ s.wants.length then joinEntryWaiters c d i s
  else if !s.poolCheck then joinPageWaiters c d i .filling s
  else
    let n := freeNumber (s.wants.map (·.number)) 33 s.wantCounter
    s |> createWant d i [c]
      |> setWait c (some (.want n s.uptime (s.deadline (s.descriptor d).fillTimeout)))
      |> readahead d (s.descriptor d).readahead (i + 1)

/-! ## A request carried on page by page (R117, R118, R126, R135) -/

/-- Where a request stands: the image page of its next block, the block's place in it, and how many of
its blocks lie in that page. -/
structure Cursor where
  page : Nat
  offset : Nat
  blocks : Nat
  deriving DecidableEq, Repr

/-- The cursor of a request over a drive's geometry. -/
def cursor (d : Descriptor) (r : Request) : Cursor :=
  let first := r.lba + r.done
  let offset := first % d.blocksPerPage
  ⟨first / d.blocksPerPage, offset, min (d.blocksPerPage - offset) (r.count - r.done)⟩

/-- A page served: the request's blocks in it are handed to the server, and the blocks transferred rise
(R126). -/
def servePage (c : Channel) (d : Descriptor) (k : Cursor) (p : CachePage) (s : State) : State :=
  modPort c (fun port =>
    { port with
      handed := { port.handed with
        blocks := port.handed.blocks ++ slice (k.offset * d.blockSize) (k.blocks * d.blockSize) p.data }
      request := port.request.map fun r => { r with done := r.done + k.blocks } }) s

/-- The request's blocks that lie in the cursor's page. -/
def chunk (d : Descriptor) (r : Request) (k : Cursor) : List Byte :=
  sentBytes (r.done * d.blockSize) r.data (k.blocks * d.blockSize)

/-- The blocks transferred rise by those placed (R118). -/
def placed (c : Channel) (k : Cursor) : State → State :=
  modRequest c fun r => { r with done := r.done + k.blocks }

/-- The request's blocks written into a page, which takes the cache state given (R135). -/
def writePage (c : Channel) (dn : DriveNo) (d : Descriptor) (r : Request) (k : Cursor) (p : CachePage)
    (st : CacheState) (s : State) : State :=
  s |> putPage dn { p with state := st, data := splice (k.offset * d.blockSize) (chunk d r k) p.data }
    |> placed c k

/-- A drive has room for one more dirty page (R136). -/
def State.hasRoom (s : State) (d : DriveNo) : Bool := (s.drive d).dirtyCount < (s.descriptor d).dirtyLimit

/-- A page joins the tail of the Spill Queue (R137). -/
def queueSpill (d : DriveNo) (i : Nat) (s : State) : State :=
  { s with spillQueue := s.spillQueue ++ [⟨d, i⟩] }

/-- The write covers every valid block of its page (R135). -/
def coversPage (d : Descriptor) (k : Cursor) : Bool := k.offset = 0 && k.blocks = d.valid k.page

/-- One page of a READ BLOCKS (R126): the state after it, and whether the request goes on. -/
def readStep (c : Channel) (dn : DriveNo) (d : Descriptor) (k : Cursor) (s : State) : State × Bool :=
  match s.page dn k.page with
  | none => (demandWant c dn k.page s, false)
  | some p =>
    match p.state with
    | .filling => (joinWant c dn k.page s, false)
    | .clean => (s |> servePage c d k p |> touch dn k.page, true)
    | _ => (servePage c d k p s, true)

/-- One page of a WRITE BLOCKS (R135). A request served from a waiting list tests room again; no other
request of its drive can have taken it (R125, R136). -/
def writeStep (c : Channel) (dn : DriveNo) (d : Descriptor) (r : Request) (k : Cursor) (s : State) :
    State × Bool :=
  match s.page dn k.page with
  | some p =>
    match p.state with
    | .dirty => (writePage c dn d r k p .dirty s, true)
    | .spilling => (writePage c dn d r k p .spillingDirty s, true)
    | .spillingDirty => (writePage c dn d r k p .spillingDirty s, true)
    | .filling => (joinWant c dn k.page s, false)
    | .clean =>
      if !s.hasRoom dn then (joinDirtyWaiters c dn k.page s, false)
      else if !s.poolCheck then (joinPageWaiters c dn k.page .convert s, false)
      else (s |> unlist dn k.page |> writePage c dn d r k p .dirty |> queueSpill dn k.page, true)
  | none =>
    if coversPage d k then
      if !s.hasRoom dn then (joinDirtyWaiters c dn k.page s, false)
      else if !s.poolCheck then (joinPageWaiters c dn k.page .dirty s, false)
      else
        (s |> takePage |> putPage dn ⟨k.page, .dirty, padPage (chunk d r k)⟩ |> placed c k
           |> queueSpill dn k.page, true)
    else (demandWant c dn k.page s, false)

/-- One page of the request in progress. -/
def pageStep (c : Channel) (dn : DriveNo) (r : Request) (s : State) : State × Bool :=
  let d := s.descriptor dn
  match r.kind with
  | .readBlocks => readStep c dn d (cursor d r) s
  | .writeBlocks => writeStep c dn d r (cursor d r) s
  | _ => (s, false)

/-- The request in progress of a channel carried on until it waits or its last page is done, when it
completes GOOD (R117, R118). `fuel` bounds the pages: each one served transfers a block. -/
def carryOn (c : Channel) (dn : DriveNo) : Nat → State → State
  | 0, s => s
  | fuel + 1, s =>
    match s.request c with
    | none => s
    | some r =>
      if r.count ≤ r.done then complete c .good s
      else
        let x := pageStep c dn r s
        if x.2 then carryOn c dn fuel x.1 else x.1

/-- A request that waited resumes its transfer from its page, looked up again (R97, R126, R134, R136). -/
def resumeRequest (c : Channel) (s : State) : State :=
  match s.request c, s.boundDrive c with
  | some r, some d => s |> setWait c none |> carryOn c d (r.count + 1)
  | _, _ => s

/-! ## Serving the waiters (R97, R134, R136) -/

/-- The pool serves its page waiter list, the oldest first, while the check passes (R97). -/
def servePageWaiters : Nat → State → State
  | 0, s => s
  | fuel + 1, s =>
    match s.pageWaiters with
    | [] => s
    | w :: rest =>
      if s.poolCheck then servePageWaiters fuel (resumeRequest w.channel { s with pageWaiters := rest })
      else s

/-- The page waiters served, after an event that may have raised the margin (R95). Each is served at most
once: a request joins again only where the check fails, and serving ends there. -/
def servePages (s : State) : State := servePageWaiters s.pageWaiters.length s

/-- The want-entry waiter list served while the table has a free entry (R134). -/
def serveEntryWaiters : Nat → State → State
  | 0, s => s
  | fuel + 1, s =>
    match s.entryWaiters with
    | [] => s
    | w :: rest =>
      if s.wants.length < Config.wantEntries then
        serveEntryWaiters fuel (resumeRequest w.channel { s with entryWaiters := rest })
      else s

/-- The want-entry waiters served, after a want has left the table (R134). -/
def serveEntries (s : State) : State := serveEntryWaiters s.entryWaiters.length s

/-- The drive's dirty waiter list served while the drive has room (R136). -/
def serveDirtyWaiters (d : DriveNo) : Nat → State → State
  | 0, s => s
  | fuel + 1, s =>
    match (s.drive d).dirtyWaiters with
    | [] => s
    | w :: rest =>
      if s.hasRoom d then
        serveDirtyWaiters d fuel (s |> modDrive d (fun x => { x with dirtyWaiters := rest })
          |> resumeRequest w.channel)
      else s

/-- The drive's dirty waiters served, at a spill end (R142). -/
def serveDirty (d : DriveNo) (s : State) : State :=
  serveDirtyWaiters d (s.drive d).dirtyWaiters.length s

/-- The drain tested: a DRAINING drive that holds no dirty or spilling page and no want enters IDLE and
raises DRIVE (R108). -/
def testDrain (d : DriveNo) (s : State) : State :=
  if (s.drive d).state = .draining ∧ (s.drive d).dirtyCount = 0 ∧ s.wants.all (fun w => w.drive ≠ d) then
    modDrive d (fun x => { x with state := .idle, driveFlag := true }) s
  else s

/-- A SYNC waiting on a drive tested (R121, R142 step 3). -/
def testSync (d : DriveNo) (s : State) : State :=
  match (s.drive d).bound with
  | none => s
  | some c =>
    match s.request c with
    | none => s
    | some r =>
      match r.wait with
      | some (.spills ..) => if (s.drive d).dirtyCount = 0 then complete c .good s else s
      | _ => s

/-! ## The ends of wants and spills -/

/-- A want of the table by number, drive and image page (R131, R132, R140: "matches all three"). -/
def State.wantMatching (s : State) (n : Byte) (d : DriveNo) (i : Nat) : Option Want :=
  s.wants.find? fun w => w.number = n && w.drive = d && w.page = i

/-- A want removed from the table (R131 step 3). -/
def removeWant (n : Byte) (s : State) : State :=
  { s with wants := s.wants.filter fun w => w.number ≠ n }

/-- A want that ends without a fill: its page freed, the want removed, its waiters ended with a status,
the drain tested, and the waiters served, in the order of R132 and R133. -/
def failWant (w : Want) (st : Completion) (s : State) : State :=
  s |> dropPage w.drive w.page
    |> removeWant w.number
    |> (fun s => w.waiters.foldl (fun s c => endRequest c st s) s)
    |> testDrain w.drive
    |> servePages
    |> serveEntries

/-- A want filled, in the order of R131. -/
def fillWant (w : Want) (data : List Byte) (s : State) : State :=
  s |> putPage w.drive ⟨w.page, .clean, padPage data⟩
    |> touch w.drive w.page
    |> removeWant w.number
    |> testDrain w.drive
    |> servePages
    |> serveEntries
    |> fun s => w.waiters.foldl (fun s c => resumeRequest c s) s

/-- The effects that follow every spill end (R142); `stored` says that a SPILLING page became CLEAN. -/
def afterSpill (d : DriveNo) (stored : Bool) (s : State) : State :=
  (if stored then servePages s else s) |> serveDirty d |> testSync d |> testDrain d

/-- A spill leaves the table (R138). -/
def removeSpill (n : Byte) (s : State) : State :=
  { s with spills := s.spills.filter fun x => x.number ≠ n }

/-- The page of a spill returned DIRTY to the head of the Spill Queue (R140 RETRY, R141). -/
def spillToHead (d : DriveNo) (i : Nat) (s : State) : State :=
  match s.page d i with
  | none => s
  | some p =>
    { (putPage d { p with state := .dirty } s) with
      spillQueue := ⟨d, i⟩ :: s.spillQueue }

/-- The page of a spill that the host has stored (R140 STORED). -/
def spillStored (d : DriveNo) (i : Nat) (s : State) : State :=
  match s.page d i with
  | none => s
  | some p =>
    if p.state = .spilling then s |> putPage d { p with state := .clean } |> touch d i
    else s |> putPage d { p with state := .dirty } |> queueSpill d i

end Sys2Proof.Machine
end

