-- ==== Sys2Proof/Machine/Capture.lean ====
section
/-! DEFINITION. The Capture Store (chapter 3): capturing a byte, taking and recycling pages, shedding, the
check of Set Capture Limits, and what Console Read selects. -/

namespace Sys2Proof.Machine

/-! ## Capturing a byte (R44 to R47) -/

/-- Markers below the new oldest dropped (R53). They stand at the oldest end of the list, since positions
do not decrease along it (R51). -/
def Store.dropMarkers (st : Store) : Store :=
  { st with markers := st.markers.filter fun m => st.oldest ≤ m.position }

/-- The byte needs a page: the list is empty or its newest page is full (R46). -/
def Store.needsPage (st : Store) : Bool := st.pages.isEmpty || st.next % Config.pageBytes = 0

/-- The pool grants a console take (R46, R92). -/
def grantsPage (st : Store) (s : State) : Bool :=
  st.pages.length < st.floor || st.pages.length < st.ceiling && s.poolCheck

/-- A granted page joins the newest end of the list, with base next (R46). -/
def Store.grow (st : Store) : Store := { st with pages := st.pages ++ [⟨st.next, []⟩] }

/-- Steps 1 to 3 of recycling (R47). -/
def Store.recycle (st : Store) : Store :=
  Store.dropMarkers
    { st with pages := st.pages.tail ++ [⟨st.next, []⟩], oldest := st.oldest + Config.pageBytes }

/-- The page a byte needs had from the pool, or by recycling (R46, R47). -/
def needPage (c : Channel) (s : State) : State :=
  let st := (s.chan c).store
  if !st.needsPage then s
  else if grantsPage st s then s |> takePage |> modStore c Store.grow
  else s |> modStore c Store.recycle |> raise c .loss

/-- A byte written at the end of the newest page. -/
def appendByte (b : Byte) : List CapturePage → List CapturePage
  | [] => []
  | [p] => [{ p with bytes := p.bytes ++ [b] }]
  | p :: rest => p :: appendByte b rest

/-- An accepted character reaches the store (R44, R57): captured, and so told. At the stream's end it is
not captured. -/
def captureByte (c : Channel) (b : Byte) (s : State) : State × Bool :=
  if (s.chan c).store.next < Config.streamEnd then
    (s |> needPage c
       |> modStore c (fun st => { st with pages := appendByte b st.pages, next := st.next + 1 })
       |> raise c .data, true)
  else (s, false)

/-! ## Floor and ceiling (R48 to R50) -/

/-- The store with the limits given and its oldest pages shed down to the ceiling (R50). -/
def Store.limited (floor ceiling : Nat) (st : Store) : Store :=
  let n := st.pages.length - ceiling
  Store.dropMarkers
    { st with
      floor := floor, ceiling := ceiling
      pages := st.pages.drop n, oldest := st.oldest + n * Config.pageBytes }

/-- Limits replaced and pages shed, with LOSS where pages were (R48, R50). -/
def setLimits (c : Channel) (floor ceiling : Nat) (s : State) : State :=
  let s' := modStore c (Store.limited floor ceiling) s
  if ceiling < (s.chan c).store.pages.length then raise c .loss s' else s'

/-! ## Reading (R54, R55) -/

/-- The byte at a position of the stream: of the page that holds it. -/
def Store.byteAt (st : Store) (p : Nat) : Option Byte :=
  (st.pages[(p - st.oldest) / Config.pageBytes]?).bind fun page => page.bytes[(p - st.oldest) % Config.pageBytes]?

/-- The bytes at `n` positions from `p` on. -/
def Store.bytesFrom (st : Store) (p : Nat) : Nat → List Byte
  | 0 => []
  | n + 1 => (st.byteAt p).toList ++ st.bytesFrom (p + 1) n

/-- What a Console Read returns (R54, R55). -/
structure Reading where
  start : Nat
  count : Nat
  next : Nat
  oldest : Nat
  gap : Bool
  more : Bool
  bytes : List Byte
  markers : List Marker
  deriving DecidableEq, Repr

/-- The selection of a Console Read from a position, with its byte maximum and marker skip (R54, R55). -/
def Store.read (start maximum skip : Nat) (st : Store) : Reading :=
  let first := clamp st.oldest st.next start
  let count := min (clamp 1 1024 maximum) (st.next - first)
  let range := (st.markers.filter fun m => first ≤ m.position && m.position ≤ first + count).drop (clamp 0 63 skip)
  { start := first, count, next := st.next, oldest := st.oldest
    gap := start < st.oldest
    more := 16 < range.length
    bytes := st.bytesFrom first count
    markers := range.take 16 }

/-- The body of a Console Read reply (11.6). DESIGN CHOICE (log 34): bits 2 to 7 of byte 20, which 11.6 does not
name, are 0. -/
def Reading.bodyBytes (r : Reading) : List Byte :=
  put6 r.start ++ put2 r.count ++ put6 r.next ++ put6 r.oldest ++
    put1 ((if r.gap then 1 else 0) + (if r.more then 2 else 0)) ++ put1 r.markers.length ++
    r.bytes ++ r.markers.flatMap Marker.bytes

end Sys2Proof.Machine
end

