-- ==== Sys2Proof/Machine/Drives.lean ====
section
/-! DEFINITION. The Drive Table and the Media Ports (chapter 7): port state changes, leaving the bus, held
completions, Insert, Eject, entry to DRAINING, and the taking of a server request. -/

namespace Sys2Proof.Machine

/-! ## The port (R110 to R113) -/

/-- A change of port state made by R111 or R112: it raises PORT (R110). -/
def setPortState (c : Channel) (v : PortState) (s : State) : State :=
  s |> modPort c (fun p => { p with state := v }) |> raise c .port

/-- A held completion given to the server (R112), stamped with the uptime at which it is given (log 35). -/
def Port.giveHeld (time : Quad) (p : Port) : Port :=
  match p.request with
  | none => p
  | some r =>
    match r.wait with
    | some (.held st) => { p with request := none, last := some ⟨st, r.done, time⟩ }
    | _ => p

/-- The port enters CONFIGURED: a completion held while it was SUSPENDED is given (R112). -/
def enterConfigured (c : Channel) (s : State) : State :=
  s |> setPortState c .configured |> fun s => modPort c (Port.giveHeld s.uptime) s

/-- Step 3 of leaving the bus: an EJECT_WAIT drive's eject-requested flag set (R113). -/
def reflagEject (c : Channel) (s : State) : State :=
  match s.boundDrive c with
  | none => s
  | some d => modDrive d (fun x => { x with ejectRequested := x.ejectRequested || x.state = .ejectWait }) s

/-- The port leaves the bus, in the order of R113: the request in progress is aborted with no
completion, the removal lock and the remote-wake enable are cleared, and a pending eject is flagged
again. -/
def leaveBus (c : Channel) (s : State) : State :=
  s |> withdraw c
    |> modPort c (fun p => { p with request := none, removalLock := false, remoteWake := false })
    |> reflagEject c

/-- The port is on the bus: its pull-up is applied (R110). -/
def PortState.onBus : PortState → Bool
  | .attached => true
  | .configured => true
  | .suspended => true
  | _ => false

/-- The port goes to a state off the bus, or to ATTACHED by re-enumeration, with the effects of leaving
the bus where it was on it (R111 to R113). -/
def dropBus (c : Channel) (v : PortState) (s : State) : State :=
  if (s.chan c).port.state.onBus then s |> setPortState c v |> leaveBus c else setPortState c v s

/-! ## Load and Unload (R101, R104) -/

/-- A bit of a presence byte marks its optional field as carried (11.6). -/
def marked (presence : Byte) (bit : Nat) : Bool := presence.getLsbD bit

/-- A timeout of a descriptor: taken down to the step of 100 ms below, and clamped (R101). -/
def takenTimeout (n : Nat) : Nat := clamp 100 25500 (stepDown 100 n)

/-- The descriptor taken from a Load Drive body, the write-protect choice read (R101); bits 4 to 7 of the
presence byte are ignored (log 18). -/
def takenDescriptor (r : DescriptorRecord) (writeProtect : Bool) : Descriptor where
  blockSize := r.blockSize.toNat
  capacity := clamp 1 4294967295 r.capacity.toNat
  writeProtect := writeProtect
  dirtyLimit := if marked r.presence 0 then clamp 1 256 r.dirtyLimit.toNat else 64
  readahead := if marked r.presence 1 then clamp 0 4 r.readahead.toNat else 2
  fillTimeout := if marked r.presence 2 then takenTimeout r.fillTimeout.toNat else 2000
  spillTimeout := if marked r.presence 3 then takenTimeout r.spillTimeout.toNat else 5000

/-- Every page of an IDLE drive, all CLEAN (R109), freed: they leave the clean LRU list and the page map
(R104). -/
def freeDrive (d : DriveNo) (s : State) : State :=
  modDrive d (fun x => { x with map := [] }) { s with cleanList := s.cleanList.filter fun r => r.drive ≠ d }

/-! ## Insert (R105) -/

/-- The checks of state of an Insert: none where it is accepted (R105). -/
def insertRefusal (d : DriveNo) (c : Channel) (s : State) : Option Status :=
  if (s.drive d).state ≠ .idle then some .wrongState
  else if (s.boundDrive c).isSome then some .boundElsewhere
  else none

/-- Step 4 of an Insert: a SUSPENDED port with remote wake enabled resumes the bus (R105, R112). -/
def wakePort (c : Channel) (s : State) : State :=
  if (s.chan c).port.state = .suspended ∧ (s.chan c).port.remoteWake then enterConfigured c s else s

/-- An accepted Insert, in the order of R105. -/
def insertDrive (d : DriveNo) (c : Channel) (s : State) : State :=
  s |> modDrive d (fun x =>
        { x with state := .inserted, bound := some c, changeOwed := true, ejectRequested := false })
    |> marker c .mediaIn d.val
    |> raiseDrive d
    |> wakePort c

/-! ## Entry to DRAINING and Eject (R106, R107) -/

/-- The reasons of a MEDIA_OUT marker (R107). -/
inductive OutReason where
  | host
  | recipe
  | server
  | forced
  deriving DecidableEq, Repr

/-- The reason's number (R52, R107). -/
def OutReason.code : OutReason → Nat
  | .host => 0
  | .recipe => 1
  | .server => 2
  | .forced => 3

/-- Step 3 of entry to DRAINING: every POSTED want of the drive removed and its FILLING page freed; TAKEN
wants stay (R107). -/
def dropPosted (d : DriveNo) (s : State) : State :=
  (s.wants.filter fun w => w.drive = d && !w.taken).foldl
    (fun s w => s |> dropPage d w.page |> removeWant w.number) s

/-- Step 1 of entry to DRAINING: the binding ends (R107). -/
def unbind (d : DriveNo) (c : Channel) (s : State) : State :=
  s |> modDrive d (fun x =>
        { x with state := .draining, bound := none, changeOwed := false, ejectRequested := false })
    |> modPort c (fun p => { p with removalLock := false })

/-- A drive enters DRAINING, in the order of R107; `own` says that the request in progress is the
server's own REMOVAL LOCK or EJECT, which completes GOOD. Once the entry is complete the pool serves its
page waiters, and the want-entry waiters are served (R95, R134). -/
def enterDraining (own : Bool) (d : DriveNo) (why : OutReason) (s : State) : State :=
  match (s.drive d).bound with
  | none => s
  | some c =>
    s |> unbind d c
      |> (if own then id else endRequest c .noMedium)
      |> dropPosted d
      |> marker c .mediaOut (d.val + 256 * why.code)
      |> raiseDrive d
      |> testDrain d
      |> servePages
      |> serveEntries

/-- The removal lock of the port of a drive's bound channel (R106). -/
def State.lockOf (s : State) (d : DriveNo) : Bool :=
  match (s.drive d).bound with
  | none => false
  | some c => (s.chan c).port.removalLock

/-- An Eject by state, lock and force; none where it is refused WRONG_STATE (R106). `why` is HOST or
RECIPE. -/
def ejectDrive (d : DriveNo) (force : Bool) (why : OutReason) (s : State) : Option State :=
  let asked := modDrive d (fun x => { x with ejectRequested := true, state := .ejectWait })
  let whenIn := if !s.lockOf d then enterDraining false d why s
    else if force then enterDraining false d .forced s
    else s |> asked |> raiseDrive d
  match (s.drive d).state with
  | .inserted => some whenIn
  | .present => some whenIn
  | .ejectWait => some (if force then enterDraining false d .forced s else asked s)
  | _ => none

/-! ## A server request (R114, R115) -/

/-- Step 4 of R115 is `act`; steps 1 to 3 answer the request in its place (R115). -/
def examine (c : Channel) (act : DriveNo → State → State) (s : State) : State :=
  match s.boundDrive c with
  | none => complete c .noMedium s
  | some d =>
    if (s.drive d).state = .inserted then
      s |> modDrive d (fun x => { x with changeOwed := false, state := .present })
        |> raiseDrive d
        |> complete c .mediumChanged
    else if (s.drive d).ejectRequested then
      s |> modDrive d (fun x => { x with ejectRequested := false }) |> complete c .ejectRequested
    else act d s

/-- The port takes requests: CONFIGURED with none in progress (R114). -/
def State.portTakes (s : State) (c : Channel) : Bool :=
  (s.chan c).port.state = .configured && (s.chan c).port.request.isNone

/-- A server request reaching the port: taken, with its record, and examined; a port that takes none is
left as it is (R114; log 21). -/
def serverRequest (c : Channel) (r : Request) (act : DriveNo → State → State) (s : State) : State :=
  if s.portTakes c then
    s |> modPort c (fun p => { p with request := some r, handed := ⟨[], none⟩ }) |> examine c act
  else s

/-- The record of a request of a kind that carries no blocks. -/
def Request.plain (k : RequestKind) : Request := ⟨k, 0, 0, 0, [], none⟩

/-- READ BLOCKS carried out (R117). -/
def readRequest (c : Channel) (lba count : Nat) (d : DriveNo) (s : State) : State :=
  if 128 < count then complete c .outOfRange s
  else if (s.descriptor d).capacity < lba + count then complete c .outOfRange s
  else carryOn c d (count + 1) s

/-- WRITE BLOCKS carried out (R118). -/
def writeRequest (c : Channel) (lba count : Nat) (d : DriveNo) (s : State) : State :=
  if (s.descriptor d).writeProtect then complete c .writeProtected s
  else if 128 < count ∨ (s.descriptor d).capacity < lba + count then complete c .outOfRange s
  else carryOn c d (count + 1) s

/-- REMOVAL LOCK carried out (R119). -/
def lockRequest (c : Channel) (on : Bool) (d : DriveNo) (s : State) : State :=
  let s' := modPort c (fun p => { p with removalLock := on }) s
  (if !on && (s.drive d).state = .ejectWait then enterDraining true d .host s' else s') |> complete c .good

/-- EJECT carried out (R120). -/
def ejectRequest (c : Channel) (d : DriveNo) (s : State) : State :=
  if (s.chan c).port.removalLock then complete c .lockedByServer s
  else s |> enterDraining true d .server |> raiseServerEject d |> complete c .good

/-- SYNC carried out (R121). -/
def syncRequest (c : Channel) (d : DriveNo) (s : State) : State :=
  if (s.drive d).dirtyCount = 0 then complete c .good s
  else setWait c (some (.spills s.uptime (s.deadline (s.descriptor d).fillTimeout))) s

/-- The answer of QUERY CAPACITY handed to the server, and its completion (R116). -/
def capacityRequest (c : Channel) (d : DriveNo) (s : State) : State :=
  let k := s.descriptor d
  s |> modPort c (fun p => { p with handed := { p.handed with capacity := some (k.capacity, k.blockSize) } })
    |> complete c .good

end Sys2Proof.Machine
end

