-- ==== Sys2Proof/Machine/Patterns.lean ====
section
/-! DEFINITION. Pattern Watch (chapter 5): how a match unit compares, follows and completes a match, and how
it is set, armed and disarmed. What a hit does outside the unit stands in `Machine/Triggers.lean`. -/

namespace Sys2Proof.Machine

/-- A byte under the case-fold option: with it on, the letters A to Z are taken as a to z (R77). -/
def foldByte (on : Bool) (b : Byte) : Byte :=
  if on ∧ 0x41 ≤ b.toNat ∧ b.toNat ≤ 0x5A then b + 0x20 else b

/-- The pattern as a unit compares it; the stored bytes stay unfolded (R77). -/
def MatchUnit.folded (u : MatchUnit) : List Byte := u.pattern.map (foldByte u.fold)

/-- The largest k up to a bound such that the last k characters of a text equal the first k of a pattern
(R78). -/
def overlap (pattern text : List Byte) : Nat → Nat
  | 0 => 0
  | k + 1 =>
    if text.drop (text.length - (k + 1)) = pattern.take (k + 1) then k + 1 else overlap pattern text k

/-- The characters that bear on the next match, ending with a new one: the progress says that the last
of those before it equal the first bytes of the pattern, and none before them can (R78). -/
def MatchUnit.seen (b : Byte) (u : MatchUnit) : List Byte :=
  u.folded.take u.progress ++ [foldByte u.fold b]

/-- A match completes at a character (R78 step 3). -/
def MatchUnit.completes (b : Byte) (u : MatchUnit) : Bool :=
  u.state = .armed && overlap u.folded (u.seen b) u.pattern.length = u.pattern.length

/-- Steps 1 to 3 of a hit (R81), with the progress of R78. -/
def MatchUnit.hit (b : Byte) (u : MatchUnit) : MatchUnit :=
  { u with
    hits := min 255 (u.hits + 1)
    pending := true
    state := if u.counting then .armed else .hit
    progress := if u.counting then overlap u.folded (u.seen b) (u.pattern.length - 1) else 0 }

/-- A unit handed a character (R76, R78): one that is not ARMED is left as it is. -/
def MatchUnit.see (b : Byte) (u : MatchUnit) : MatchUnit :=
  if u.completes b then u.hit b
  else if u.state = .armed then { u with progress := overlap u.folded (u.seen b) u.pattern.length }
  else u

/-- A unit armed: pending hit cleared, progress 0, hit count kept (R84). -/
def MatchUnit.arm (u : MatchUnit) : MatchUnit := { u with state := .armed, pending := false, progress := 0 }

/-- A unit disarmed: hit count and pending hit kept (R85). -/
def MatchUnit.disarm (u : MatchUnit) : MatchUnit := { u with state := .disarmed, progress := 0 }

/-- A unit set with the bytes a Set Pattern carries, at most 16 of them taken; with none it is UNSET
(R83). -/
def MatchUnit.setTo (bytes : List Byte) (fold counting : Bool) : MatchUnit :=
  ⟨bytes.take 16, fold, counting, if bytes.isEmpty then .unset else .disarmed, 0, false, 0⟩

/-- A pending hit consumed (R82). -/
def consumeHit (c : Channel) (u : UnitNo) : State → State := modUnit c u fun x => { x with pending := false }

end Sys2Proof.Machine
end

