-- ==== Sys2Proof/Machine/Monitors.lean ====
section
/-! DEFINITION. The Baud Finder and the Heartbeat Watch (chapter 2): verdicts, lock, loss, relearn, the
glitch filter, and the watch's gate. -/

namespace Sys2Proof.Machine

/-! ## The verdict (R23) -/

/-- The ticks of one second, against which M × r is compared (R23). -/
def tickRate : Nat := 64000000

/-- E(r): the absolute difference between M × r and 64,000,000 (R23). -/
def rateError (m : Nat) (r : RateIx) : Nat := (m * tableRate r - tickRate) + (tickRate - m * tableRate r)

/-- The rate with the smallest error among those listed; an earlier (lower) rate wins a tie (R23). -/
def nearest (m : Nat) (best : RateIx) : List RateIx → RateIx
  | [] => best
  | r :: rest => nearest m (if rateError m r < rateError m best then r else best) rest

/-- The candidate c of R23 for a shortest run M. -/
def candidateOf (m : Nat) : RateIx := nearest m 0 (List.finRange 11)

/-- E(c) for the nearest rate whenever Q was 16 or more (R32). -/
def windowError (q : Nat) (m : Option Nat) : Option Nat :=
  if q < 16 then none else m.map fun m => rateError m (candidateOf m)

/-- The verdict of R23 from Q, M and the tolerance in percent. -/
def verdictOf (q : Nat) (m : Option Nat) (tolerance : Nat) : Verdict :=
  if q < 16 then .sparse
  else match m with
    | none => .sparse
    | some m =>
      if rateError m (candidateOf m) * 100 ≤ tickRate * tolerance then .candidate (candidateOf m)
      else .outOfTolerance

/-! ## Finder actions -/

/-- The rate in use (R24, R25). -/
def Finder.rate (f : Finder) : Nat := if f.state = .fixed then f.fixedRate else tableRate f.lastLocked

/-- Partial-match progress of all four units set to 0 (R80). -/
def resetProgress (c : Channel) : State → State :=
  modChan c fun x => { x with units := x.units.map fun u => { u with progress := 0 } }

/-- The finder locks at a candidate, in the order of R26. -/
def lockAt (c : Channel) (r : RateIx) (s : State) : State :=
  s |> modFinder c (fun f => { f with state := .locked, lastLocked := r, divisor := divisorOf (tableRate r) })
    |> marker c .baudLock r.val
    |> raise c .baud
    |> resetProgress c

/-- The finder loses a lock, or is relearned from LOCKED: HUNTING with agreement 0 and no remembered
candidate, the locked rate and the divisor kept, in the order of R27 and R29. -/
def loseLock (c : Channel) (s : State) : State :=
  s |> modFinder c (fun f => { f with state := .hunting, agreement := 0, candidate := none })
    |> marker c .baudLost (s.chan c).finder.lastLocked.val
    |> raise c .baud
    |> resetProgress c

/-- A window end in HUNTING acting on its verdict (R26). -/
def huntingEnd (c : Channel) (v : Verdict) (s : State) : State :=
  match v with
  | .outOfTolerance => modFinder c (fun f => { f with agreement := 0, candidate := none }) s
  | .candidate r =>
    let f := (s.chan c).finder
    let agreement := if f.candidate = some r then f.agreement + 1 else 1
    let s' := modFinder c (fun f => { f with agreement := agreement, candidate := some r }) s
    if f.settings.agree ≤ agreement then lockAt c r s' else s'
  | _ => s

/-- A window end in LOCKED tested for loss (R27). -/
def lockedEnd (c : Channel) (v : Verdict) (s : State) : State :=
  let f := (s.chan c).finder
  if f.settings.threshold ≤ f.f ∧ v ≠ .candidate f.lastLocked then loseLock c s else s

/-- A window end (R22): the verdict is formed and acted on by state, and the figures are copied; the
next window begins when this one ends, with the length in force. -/
def baudWindow (c : Channel) (s : State) : State :=
  let f := (s.chan c).finder
  let v := if f.state = .fixed then Verdict.none else verdictOf f.q f.m f.settings.tolerance
  let s' := match f.state with
    | .hunting => huntingEnd c v s
    | .locked => lockedEnd c v s
    | .fixed => s
  modFinder c (fun g =>
    { g with
      last := ⟨f.q, f.m, f.f, v, windowError f.q f.m⟩
      windowStart := f.windowStart + f.windowLength * Config.msUnits
      windowLength := g.settings.window, q := 0, m := none, f := 0 }) s'

/-- A relearn (R29). -/
def relearn (c : Channel) (s : State) : State :=
  match (s.chan c).finder.state with
  | .hunting =>
    modFinder c (fun f => Finder.restartWindow s.now { f with agreement := 0, candidate := none }) s
  | .locked => loseLock c s |> modFinder c (Finder.restartWindow s.now)
  | .fixed => s

/-- The Power Controller's signal that the power state has entered ON (R3, R29). -/
def powerUpSignal (c : Channel) (s : State) : State :=
  if (s.chan c).finder.settings.relearn then relearn c s else s

/-- A framing error counted in the window in progress (R22, R42). -/
def countFraming (c : Channel) : State → State := modFinder c fun f => { f with f := min 255 (f.f + 1) }

/-! ## The line (R21, R41) -/

/-- A run of a length in ticks that ended: counted into Q and M if it qualifies, below 65,535 ticks
(R21, R22). -/
def Finder.closeRun (ticks : Nat) (f : Finder) : Finder :=
  if ticks < 65535 then
    { f with q := min 65535 (f.q + 1), m := some (match f.m with | none => ticks | some m => min m ticks) }
  else f

/-- The moment of the k-th sample of a character (the start bit's is 0, the stop bit's 9), at the middle
of its bit, measured from the falling edge (R41). -/
def samplePoint (since divisor k : Nat) : Nat := since + (2 * k + 1) * divisor / 2

/-- The samples of a character whose moments lie before `t`, the line having held `level` since the
last of those already taken (R41). -/
def sampleUpTo (since divisor t : Nat) (level : Bool) : Nat → List Bool → List Bool
  | 0, samples => samples
  | n + 1, samples =>
    if samples.length < 10 ∧ samplePoint since divisor samples.length < t then
      sampleUpTo since divisor t level n (samples ++ [level])
    else samples

/-- The receiver at a surviving edge to `level` at the moment `t` (R41): WAIT_HIGH is left when the line
is high, WAIT_START at a falling edge; in ASSEMBLE the bits before the edge are taken, and a start bit
that was sampled high was false. -/
def Framing.edge (divisor t : Nat) (level : Bool) : Framing → Framing
  | .waitHigh => if level then .waitStart else .waitHigh
  | .waitStart => if level then .waitStart else .assemble t divisor []
  | .assemble since d samples =>
    let taken := sampleUpTo since d t (!level) 10 samples
    if taken.head? = some true then (if level then .waitStart else .assemble t divisor [])
    else .assemble since d taken

/-- An edge that has survived the filter: timed at the moment the raw line changed, it closes a run,
opens the next and moves the receiver (R21, R41). The run's length is rounded down to whole ticks
(log 11), and a character takes the divisor in force when its falling edge survives (log 31). -/
def surviveEdge (c : Channel) (t : Nat) (s : State) : State :=
  let f := (s.chan c).finder
  let level := f.rxdRaw
  let closed := match f.runStart with
    | none => f
    | some r => f.closeRun (min 65535 ((t - r) / Config.tickUnits))
  s |> modFinder c (fun _ => { closed with rxdLevel := level, edgeAt := none, runStart := some t })
    |> setFraming c ((s.chan c).framing.edge f.divisor t level)

/-! ## The Heartbeat Watch's gate (R35) -/

/-- The gate opens if both its conditions hold (R35). -/
def openWatchGate (c : Channel) (s : State) : State :=
  if (s.chan c).watch.settings.enable && s.powered c then modWatch c (Watch.opened s.now) s else s

/-- The gate closes (R35). The start and length of the discarded window stay stored, unread until the gate opens
(log 39). -/
def closeWatchGate (c : Channel) : State → State := modWatch c Watch.closed

/-- The gate is open (R35). -/
def gateOpen (c : Channel) (s : State) : Bool := (s.chan c).watch.settings.enable && s.powered c

end Sys2Proof.Machine
end

