-- ==== Sys2Proof/Machine/Transmit.lean ====
section
/-! DEFINITION. The Console Transmitter (chapter 4): byte boundaries, the arbiter, flow control, the
key-pass slot, breaks, stalls and the power gate. The transmitter state is not stored: it follows from
the power state and the records (`txState`). -/

namespace Sys2Proof.Machine

/-- The transmitter states (R60). -/
inductive TxState where
  | gated
  | idle
  | sending
  | breaking
  | held
  deriving DecidableEq, Repr

/-- The state's code in Transmit Status (R74). -/
def TxState.code : TxState → Nat
  | .gated => 0
  | .idle => 1
  | .sending => 2
  | .breaking => 3
  | .held => 4

/-- A break is on the line (R68). -/
def Transmitter.breaking (t : Transmitter) : Bool :=
  match t.brk with
  | some b => b.since.isSome
  | none => false

/-- The transmitter state (R60): GATED unless the power state is ON; BREAKING while a break is held, in
a hold too (R70). -/
def Transmitter.state (powered : Bool) (t : Transmitter) : TxState :=
  if !powered then .gated
  else if t.breaking then .breaking
  else if t.char.isSome then .sending
  else if t.hold.isSome then .held
  else .idle

/-- The transmitter state of a channel. -/
def State.txState (s : State) (c : Channel) : TxState := (s.chan c).tx.state (s.powered c)

/-- The level of Sn_TXD in a character, true for high: a start bit (low), the eight data bits least
significant first, a stop bit (high), each lasting the divisor at its start (R60). -/
def TxChar.level (now : Nat) (x : TxChar) : Bool :=
  match (now - x.since) / x.divisor with
  | 0 => false
  | k + 1 => if k < 8 then x.byte.getLsbD k else true

/-- The level of Sn_TXD, true for high: low in a break, the character's own while one is sent, and idle
high otherwise (R60). -/
def State.txd (s : State) (c : Channel) : Bool :=
  match s.txState c, (s.chan c).tx.char with
  | .breaking, _ => false
  | .sending, some x => x.level s.now
  | _, _ => true

/-- A byte boundary: ON with no character and no break on the line (R60), and the steps of an end that
made the boundary done (R68 step 4; log 33). -/
def State.atBoundary (s : State) (c : Channel) : Bool :=
  s.powered c && (s.chan c).tx.char.isNone && !(s.chan c).tx.breaking && !(s.chan c).tx.settling

/-! ## The arbiter (R69, R70) -/

/-- What the arbiter may send: the next byte of the pass in progress, the first byte of a due pass, or
the oldest queued byte. -/
inductive Choice where
  | passByte (byte : Byte)
  | duePass (byte : Byte)
  | queued (byte : Byte)
  deriving DecidableEq, Repr

/-- The slot's part of the choice: orders 2 and 3 of R69. -/
def KeySlot.choice (k : KeySlot) : Option Choice :=
  match k.progress with
  | some p => k.string[p]?.map .passByte
  | none => if k.due then k.string.head?.map .duePass else none

/-- Orders 2 to 4 of R69. -/
def Transmitter.choice (t : Transmitter) : Option Choice :=
  match t.slot.bind KeySlot.choice with
  | some x => some x
  | none => t.queue.head?.map .queued

/-- The byte of a choice. -/
def Choice.byte : Choice → Byte
  | .passByte b => b
  | .duePass b => b
  | .queued b => b

/-- A pass's next byte sent (R69 order 2). -/
def KeySlot.advance (k : KeySlot) : KeySlot := { k with progress := k.progress.map (· + 1) }

/-- A pass started: the due indicator cleared, and a repeating slot's countdown set to the interval
(R64). -/
def KeySlot.start (now : Nat) (k : KeySlot) : KeySlot :=
  { k with
    due := false, progress := some 1
    countdown := if k.interval = 0 then .none else .running (now + k.interval * Config.msUnits) }

/-- A choice sent: its byte goes on the line at the divisor in force, and leaves its source (R60, R64,
R69). A hold, if any, has ended. -/
def Transmitter.send (now divisor : Nat) (x : Choice) (t : Transmitter) : Transmitter :=
  { t with
    char := some ⟨x.byte, now, divisor⟩
    hold := none
    slot := match x with
      | .passByte _ => t.slot.map KeySlot.advance
      | .duePass _ => t.slot.map (KeySlot.start now)
      | .queued _ => t.slot
    queue := match x with
      | .queued _ => t.queue.tail
      | _ => t.queue }

/-- The arbiter's choice at a byte boundary (R69), with flow control (R70): a pending break starts
whatever Sn_RTR; a byte is held while flow control is on and Sn_RTR deasserted; with nothing to send a
hold ends. -/
def Transmitter.arbitrate (now divisor : Nat) (t : Transmitter) : Transmitter :=
  match t.brk with
  | some b => { t with brk := some { b with since := some now } }
  | none =>
    match t.choice with
    | none => { t with hold := none }
    | some x =>
      if t.flow && !t.rtr then { t with hold := some (t.hold.getD now) } else t.send now divisor x

/-- The arbiter of a channel: it acts at a byte boundary and not elsewhere (R69). -/
def arbitrate (c : Channel) (s : State) : State :=
  if s.atBoundary c then modTx c (Transmitter.arbitrate s.now (s.chan c).finder.divisor) s else s

/-- The end of a character or break: its steps `f` are carried out, and then the arbiter chooses what
follows, whatever those steps have made ready (R65, R68 step 4; log 33). -/
def settleEnd (c : Channel) (f : State → State) (s : State) : State :=
  s |> modTx c (fun t => { t with settling := true })
    |> f
    |> modTx c (fun t => { t with settling := false })
    |> arbitrate c

/-! ## The key-pass slot (R63 to R66) -/

/-- A key string installed (R63); an IDLE transmitter's arbiter starts the pass at once. -/
def installKeys (c : Channel) (k : KeyNo) (interval : Nat) (string : List Byte) (s : State) : State :=
  s |> modTx c (fun t => { t with slot := some ⟨string, k, interval, true, .none, none, false⟩ })
    |> arbitrate c

/-- The slot emptied (R66). A held transmitter's arbiter chooses again (R70). -/
def emptySlot (c : Channel) (s : State) : State :=
  s |> modTx c (fun t => { t with slot := none }) |> arbitrate c

/-- A pass in progress abandoned: a once slot's whole string is due again (R65). -/
def KeySlot.abandon (k : KeySlot) : KeySlot :=
  if k.progress.isSome then { k with progress := none, due := k.due || k.interval = 0 } else k

/-- The pass whose last byte has been sent completes: a once slot is spent (R65). -/
def KeySlot.complete (k : KeySlot) : KeySlot :=
  { k with progress := none, spent := k.spent || k.interval = 0 }

/-- The last byte of the pass in progress has been sent. -/
def KeySlot.allSent (k : KeySlot) : Bool := k.progress = some k.string.length

/-- The countdown frozen while the power state is not ON (R64). -/
def KeySlot.freeze (now : Nat) (k : KeySlot) : KeySlot :=
  match k.countdown with
  | .running t => { k with countdown := .frozen (t - now) }
  | _ => k

/-- The countdown resumed from where it froze (R72). -/
def KeySlot.thaw (now : Nat) (k : KeySlot) : KeySlot :=
  match k.countdown with
  | .frozen r => { k with countdown := .running (now + r) }
  | _ => k

/-! ## Breaks (R67, R68) -/

/-- A break made pending; at a byte boundary it starts at once (R67, R68). -/
def requestBreak (c : Channel) (o : Origin) (duration : Nat) (s : State) : State :=
  s |> modTx c (fun t => { t with brk := some ⟨o, duration, none⟩ }) |> arbitrate c

/-- The time a break has been held, in whole ms: 0 before it has started (R68). -/
def Break.heldMs (now : Nat) (b : Break) : Nat :=
  match b.since with
  | none => 0
  | some t => min b.duration ((now - t) / Config.msUnits)

/-- Steps 1 and 2 of a break's end (R68): the record set to none and BREAK_SENT written. -/
def endBreak (c : Channel) (held : Nat) (s : State) : State :=
  s |> modTx c (fun t => { t with brk := none }) |> marker c .breakSent held

/-! ## Stalls and the power gate (R71, R72) -/

/-- The queue emptied by a stall or by leaving ON, with its TX_FLUSH marker (R71, R72). -/
def flushQueue (c : Channel) (s : State) : State :=
  let n := (s.chan c).tx.queue.length
  if n = 0 then s else s |> modTx c (fun t => { t with queue := [] }) |> marker c .txFlush n

/-- A stall expiry, in the order of R71. -/
def stall (c : Channel) (s : State) : State :=
  s |> flushQueue c
    |> modTx c (fun t => { t with slot := t.slot.map KeySlot.abandon })
    |> raise c .txStall
    |> modTx c (fun t => { t with hold := none })
    |> arbitrate c

/-- The power gate opens on entering ON: IDLE at a byte boundary, the countdown resumed, and a due pass
started (R72). -/
def openTxGate (c : Channel) (s : State) : State :=
  s |> modTx c (fun t => { t with slot := t.slot.map (KeySlot.thaw s.now) }) |> arbitrate c

/-- The break of a closing gate ended (R72 step 3): `tell` tells the run context of a RUN break's end
(R68 step 3). -/
def gateBreak (tell : State → State) (c : Channel) (s : State) : State :=
  match (s.chan c).tx.brk with
  | none => s
  | some b =>
    let s' := endBreak c (b.heldMs s.now) s
    if b.origin = .run then tell s' else s'

/-- The power gate closes on leaving ON, in the order of R72. The power state has already left ON, so
the transmitter reads GATED. -/
def closeTxGate (tell : State → State) (c : Channel) (s : State) : State :=
  s |> modTx c (fun t => { t with char := none })
    |> flushQueue c
    |> gateBreak tell c
    |> fun s => modTx c (fun t =>
        { t with slot := t.slot.map (fun k => (k.abandon).freeze s.now), hold := none }) s

end Sys2Proof.Machine
end

