-- ==== Sys2Proof/Machine/PowerControl.lean ====
section
/-! DEFINITION. The Power Controller (chapter 1): pulses, cuts, supplies, and entering and leaving ON with
what they hand to the other blocks. -/

namespace Sys2Proof.Machine

/-! ## Pulses (R7, R8) -/

/-- A pulse started: the record active and the line asserted (R7). -/
def startPulse (c : Channel) (l : Line) (o : Origin) (duration : Nat) (s : State) : State :=
  modPower c (Power.setPulse l (some ⟨o, duration, s.now⟩)) s

/-- The marker kind of a line's pulses (R8). -/
def pulseMarker : Line → MarkerKind
  | .button => .button
  | .reset => .resetPulse

/-- Steps 1 to 3 of a pulse's end (R8): the line released, its marker with the ms held, and its
attribution window started at 30,000 ms. -/
def endPulse (c : Channel) (l : Line) (held : Nat) (s : State) : State :=
  s |> modPower c (Power.setPulse l none)
    |> marker c (pulseMarker l) held
    |> modPower c (Power.setWindowEnd l (s.after Config.attribution))

/-- A pulse cut short, if one is active whose origin is among those given (R8). -/
def cutShort (c : Channel) (l : Line) (which : Origin → Bool) (s : State) : State :=
  match (s.chan c).power.pulse l with
  | none => s
  | some p => if which p.origin then endPulse c l (min p.duration (s.elapsed p.since)) s else s

/-! ## Leaving and entering ON (R3) -/

/-- Steps 1 to 5 of leaving ON, in the order of R3; the power state has its new value. `tell` tells the
run context of a RUN break that the closing gate ends. Steps 6 and 7 are the caller's. -/
def leaveOn (tell : State → State) (c : Channel) (cause : OffCause) (s : State) : State :=
  s |> raise c .power
    |> marker c .powerOff cause.code
    |> (fun s => modPower c (fun p => { p with lastCause := cause, lastCauseAt := s.uptime }) s)
    |> closeWatchGate c
    |> closeTxGate tell c

/-- Steps 1 to 5 of entering ON, in the order of R3; step 6 is the caller's. -/
def enterOn (c : Channel) (s : State) : State :=
  s |> modPower c (fun p => { p with state := .on })
    |> marker c .powerOn 0
    |> raise c .power
    |> openWatchGate c
    |> powerUpSignal c
    |> openTxGate c

/-- The cause of a POWER_OFF by power-good qualifying LOW: the first of R10's list whose condition
holds. -/
def offCause (c : Channel) (s : State) : OffCause :=
  let p := (s.chan c).power
  if p.button.isSome || s.now < p.buttonWindowEnd then .button
  else if p.reset.isSome || s.now < p.resetWindowEnd then .reset
  else .spontaneous

/-! ## Cut and Supply (R4 to R6) -/

/-- PEN released: the power state CUT_HOLDOFF, the hold-off at the minimum off time in force,
power-good timing abandoned, and POWER_CUT (R4). DESIGN CHOICE (log 39): the qualified power-good level is LOW from
the cut on; R2 starts it at LOW when PEN is asserted again and says nothing of it before. -/
def releasePen (c : Channel) (s : State) : State :=
  s |> modPower c (fun p =>
        { p with
          state := .cutHoldoff, holdoffEnd := s.after (p.minimumOff * 1000)
          pgQualified := false, pgSince := none })
    |> marker c .powerCut 0

/-- A Cut (R4). No run context is told of anything by it: a host's Cut finds no run RUNNING, and a run's
own CUT POWER step is not waiting (log 12). -/
def cutPower (c : Channel) (s : State) : State :=
  match (s.chan c).power.state with
  | .off => s |> releasePen c |> raise c .power
  | .on => s |> releasePen c |> leaveOn id c .cut
  | .cutHoldoff => modPower c (fun p => { p with pendingSupply := false }) s
  | .cut => s

/-- A supply taking effect: PEN asserted, POWER_SUPPLY, OFF, and power-good qualification started from
LOW (R2, R5, R6). -/
def assertPen (c : Channel) (s : State) : State :=
  s |> modPower c (fun p =>
        { p with
          state := .off, pendingSupply := false
          pgQualified := false, pgSince := timingFrom s.now p.pgRaw false })
    |> marker c .powerSupply 0
    |> raise c .power

/-- A Supply (R5). -/
def supplyPower (c : Channel) (s : State) : State :=
  match (s.chan c).power.state with
  | .cut => assertPen c s
  | .cutHoldoff => modPower c (fun p => { p with pendingSupply := true }) s
  | _ => s

end Sys2Proof.Machine
end

