-- ==== Sys2Proof/Machine/Engine.lean ====
section
/-! DEFINITION. The Recipe Engine (chapter 9): taking a step, carrying a run on to its next wait or its
end, ending a run, and the events that end a waiting step. A step that acts while its run takes steps
is not waiting, so the blocks it acts on have no run to tell (log 12). -/

namespace Sys2Proof.Machine

/-! ## Ending and starting a run -/

/-- A run ends with a result, in the order of R162. -/
def endRun (c : Channel) (x : RunResult) (s : State) : State :=
  s |> modContext c (fun k => { k with run := none })
    |> cutShort c .button (· = .run)
    |> cutShort c .reset (· = .run)
    |> emptySlot c
    |> marker c .runEnd x.argument
    |> raise c .runEnd
    |> fun s => modContext c (fun k => { k with result := x, resultAt := s.uptime }) s

/-- The steps of a recipe (R144). -/
def State.recipe (s : State) (r : RecipeNo) : List RecipeStep := s.recipes.get r

/-- The run of a channel written back into its context. -/
def setRun (c : Channel) (r : Run) : State → State := modContext c fun k => { k with run := some r }

/-! ## Taking one step -/

/-- What taking a step comes to (R149): it ends at once with an outcome, it begins a wait with a timeout in
ms or none, it is a BRANCH, CALL or RETURN that leaves the context as given, or it ends the run. -/
inductive Taken where
  | done (outcome : StepOutcome)
  | waits (wait : RunWait) (timeout : Option Nat)
  | moves (run : Run)
  | ends (result : RunResult)
  deriving DecidableEq, Repr

/-- A step timeout is in units of 100 ms (R144). -/
def stepTime (t : Nat) : Option Nat := some (t * 100)

/-- PRESS BUTTON and PULSE RESET (R150). -/
def pulseStep (c : Channel) (l : Line) (duration : Nat) (s : State) : State × Taken :=
  if ((s.chan c).power.pulse l).isSome then (s, .done .failed)
  else (startPulse c l .run duration s, .waits (.pulse l) none)

/-- WAIT POWER (R151). -/
def waitPowerStep (c : Channel) (on : Bool) (t : Nat) (s : State) : State × Taken :=
  if s.powered c = on then (s, .done .met) else (s, .waits (.power on) (stepTime t))

/-- WAIT MATCH (R152). -/
def waitMatchStep (c : Channel) (u : UnitNo) (t : Nat) (s : State) : State × Taken :=
  if (s.unit c u).state = .unset then (s, .done .failed)
  else if (s.unit c u).pending then (consumeHit c u s, .done .met)
  else (s, .waits (.unitHit u) (stepTime t))

/-- ARM MATCH (R84, R152). -/
def armStep (c : Channel) (u : UnitNo) (s : State) : State × Taken :=
  if (s.unit c u).state = .unset then (s, .done .failed) else (modUnit c u MatchUnit.arm s, .done .met)

/-- SEND KEYS (R155). -/
def sendKeysStep (c : Channel) (k : KeyNo) (interval : Nat) (s : State) : State × Taken :=
  let string := s.keys.get k
  if string.isEmpty then (s, .done .failed)
  else (installKeys c k interval string s, if interval = 0 then .waits .keys none else .done .met)

/-- SEND BREAK (R67, R155). -/
def sendBreakStep (c : Channel) (duration : Nat) (s : State) : State × Taken :=
  if !s.powered c || (s.chan c).tx.brk.isSome then (s, .done .failed)
  else (requestBreak c .run duration s, .waits .breakSent none)

/-- INSERT MEDIA (R156). -/
def insertStep (c : Channel) (d : DriveNo) (s : State) : State × Taken :=
  if (s.drive d).bound = some c then (s, .done .met)
  else match insertRefusal d c s with
    | some _ => (s, .done .failed)
    | none => (insertDrive d c s, .done .met)

/-- EJECT MEDIA (R156). -/
def ejectStep (c : Channel) (d : DriveNo) (force : Bool) (s : State) : State × Taken :=
  if (s.drive d).bound = some c then
    match ejectDrive d force .recipe s with
    | some s' => (s', .done .met)
    | none => (s, .done .failed)
  else (s, .done .failed)

/-- CALL: a return entry pushed, the oldest discarded at depth 4 (R158). -/
def callStep (k : RecipeNo) (r : Run) (s : State) : Taken :=
  if (s.recipe k).isEmpty then .ends .badStep
  else
    let kept := if r.stack.length < 4 then r.stack else r.stack.tail
    .moves { r with recipe := k, step := 0, outcome := .none, stack := kept ++ [⟨r.recipe, r.step + 1, r.outcome⟩] }

/-- RETURN: KEEP gives back the saved outcome, PASS the callee's (R159). -/
def returnStep (pass : Bool) (r : Run) : Taken :=
  match r.stack.getLast? with
  | none => .ends .complete
  | some e =>
    .moves { r with
      recipe := e.recipe, step := e.step, outcome := if pass then r.outcome else e.saved
      stack := r.stack.dropLast }

/-- The action of a step by its kind (R150 to R159). -/
def act (c : Channel) (r : Run) (s : State) : RecipeStep → State × Taken
  | .pressButton d => pulseStep c .button d s
  | .pulseReset d => pulseStep c .reset d s
  | .cutPower => (cutPower c s, .done .met)
  | .supplyPower => (supplyPower c s, .done .met)
  | .waitPower on t => waitPowerStep c on t s
  | .waitMatch u t => waitMatchStep c u t s
  | .armMatch u => armStep c u s
  | .waitActivity n t => (s, .waits (.activity n 0) (stepTime t))
  | .waitQuiet q t => (s, .waits (.quiet q s.now) (stepTime t))
  | .waitHeartbeat t => (s, .waits .heartbeat (stepTime t))
  | .delay d => (s, .waits (.delay (s.after d)) none)
  | .sendKeys k i => sendKeysStep c k i s
  | .stopKeys => (emptySlot c s, .done .met)
  | .relearnBaud => (relearn c s, .done .met)
  | .sendBreak d => sendBreakStep c d s
  | .insertMedia d => insertStep c d s
  | .ejectMedia d f => ejectStep c d f s
  | .branch o t => (s, .moves { r with step := if r.outcome = o then t else r.step + 1 })
  | .call k => (s, callStep k r s)
  | .ret pass => (s, returnStep pass r)
  | .finish code => (s, .ends (.ended code))

/-- A step taken: read at the current step of the current recipe as it stands, an implicit RETURN KEEP
beyond its last step (R149, R157). -/
def takeStep (c : Channel) (r : Run) (s : State) : State × Taken :=
  match (s.recipe r.recipe)[r.step]? with
  | none => (s, returnStep false r)
  | some x => act c r s x

/-! ## Carrying a run on -/

/-- What follows a step that was taken: the run waits with its deadline and its instant-step count at 0, or
ends, or `next` carries it on (R149, R160). -/
def settle (c : Channel) (r : Run) (next : Run → State → State) (x : State × Taken) : State :=
  match x.2 with
  | .waits w t => setRun c { r with wait := some w, deadline := t.map x.1.after, instants := 0 } x.1
  | .ends result => endRun c result x.1
  | .done o => next { r with outcome := o, step := r.step + 1 } x.1
  | .moves r' => next r' x.1

/-- The run takes steps until one waits or the run ends. `left` is how many more instant steps it may go
on from: the 256th in a row ends it LOOP (R160). -/
def runSteps (c : Channel) : Nat → Run → State → State
  | 0, r, s => settle c r (fun _ s => endRun c .loop s) (takeStep c r s)
  | left + 1, r, s =>
    settle c r (fun r' s => runSteps c left { r' with instants := r'.instants + 1 } s) (takeStep c r s)

/-- A run goes on from a context: its instant-step count says how many it may still pass. -/
def goOn (c : Channel) (r : Run) (s : State) : State := s |> setRun c r |> runSteps c (255 - r.instants) r

/-- A run starts, in the order of R148. -/
def startRun (c : Channel) (k : RecipeNo) (source : RunSource) (s : State) : State :=
  let r : Run := ⟨k, 0, .none, none, none, 0, [], source, s.uptime⟩
  s |> (fun s => modContext c (fun _ => ⟨some r, .none, s.uptime⟩) s)
    |> marker c .runStart (k.val + 256 * source.code)
    |> goOn c r

/-- The waiting step of a run ends with an outcome, and the run goes on (R149). -/
def finishWait (c : Channel) (o : StepOutcome) (s : State) : State :=
  match s.run c with
  | none => s
  | some r => goOn c { r with wait := none, deadline := none, outcome := o, step := r.step + 1 } s

/-! ## What a run is told -/

/-- The events a run context is told of (R3, R8, R38, R43, R65, R68, R81, R83). -/
inductive RunEvent where
  | power (on : Bool)
  | pulseEnded (line : Line)
  | breakEnded
  | passDone
  | hit (unit : UnitNo)
  | unset (unit : UnitNo)
  | byte
  | window (alive : Bool)
  deriving DecidableEq, Repr

/-- A byte counted by WAIT ACTIVITY (R153). -/
def countByte (c : Channel) (r : Run) (need counted : Nat) (s : State) : State :=
  if need ≤ counted + 1 then finishWait c .met s
  else setRun c { r with wait := some (.activity need (counted + 1)) } s

/-- The run context told of an event: it meets the step that waits for it, and no other (R150 to
R155). -/
def tellRun (c : Channel) (e : RunEvent) (s : State) : State :=
  match s.run c with
  | none => s
  | some r =>
    match r.wait, e with
    | some (.power on), .power now => if on = now then finishWait c .met s else s
    | some (.pulse l), .pulseEnded l' => if l = l' then finishWait c .met s else s
    | some .breakSent, .breakEnded => finishWait c .met s
    | some .keys, .passDone => finishWait c .met s
    | some (.unitHit u), .hit u' => if u = u' then s |> consumeHit c u |> finishWait c .met else s
    | some (.unitHit u), .unset u' => if u = u' then finishWait c .failed s else s
    | some (.activity n k), .byte => countByte c r n k s
    | some (.quiet q _), .byte => setRun c { r with wait := some (.quiet q s.now) } s
    | some .heartbeat, .window alive => if alive then finishWait c .met s else s
    | _, _ => s

/-- The run waits for captured bytes (R153). -/
def State.waitsBytes (s : State) (c : Channel) : Bool :=
  match (s.run c).bind (·.wait) with
  | some (.activity ..) => true
  | some (.quiet ..) => true
  | _ => false

/-- The run waits for a heartbeat window (R154). -/
def State.waitsWindow (s : State) (c : Channel) : Bool :=
  (s.run c).bind (·.wait) = some .heartbeat

end Sys2Proof.Machine
end

