-- ==== Sys2Proof/Machine/Triggers.lean ====
section
/-! DEFINITION. The Trigger Table (10.1) and what needs it: an event delivered to a channel's slots, a slot
firing, a match unit's hit, and an accepted character handed on (R43). -/

namespace Sys2Proof.Machine

/-! ## Events and firing -/

/-- The slot's holdoff remaining is 0: the countdown has reached 0, or its moment has passed. At the
moment itself an event that is taken before the countdown's end finds it above 0 (R168). -/
def TriggerSlot.holdoffOver (now : Nat) (t : TriggerSlot) : Bool :=
  match t.holdoffEnd with
  | none => true
  | some due => due < now

/-- A slot that takes part in an event and fires on it (R166). -/
def slotFires (c : Channel) (e : TriggerEvent) (i : SlotNo) (s : State) : Option RecipeNo :=
  let t := s.slot c i
  match t.recipe with
  | none => none
  | some r =>
    if t.state = .armed ∧ t.event = e ∧ !s.running c ∧ !s.isLocked c ∧ t.holdoffOver s.now ∧
        !(s.recipe r).isEmpty then some r
    else none

/-- Steps 1 and 2 of a firing, and SPENT of step 3 (R167). -/
def TriggerSlot.fired (holdoffEnd : Nat) (time : Quad) (t : TriggerSlot) : TriggerSlot :=
  let n := min 255 (t.fires + 1)
  { t with
    fires := n, lastFire := some time, holdoffEnd := some holdoffEnd
    state := if t.limit ≠ 0 ∧ t.limit ≤ n then .spent else t.state }

/-- A slot fires, in the order of R167. -/
def fire (c : Channel) (i : SlotNo) (r : RecipeNo) (s : State) : State :=
  let s' := modSlot c i (TriggerSlot.fired (s.after ((s.slot c i).holdoff * 1000)) s.uptime) s
  (if (s'.slot c i).state = .spent then raise c .trigger s' else s') |> startRun c r (.slot i)

/-- An event examined against the slots listed: the first that fires ends it (R166). -/
def examineSlots (c : Channel) (e : TriggerEvent) : List SlotNo → State → State
  | [], s => s
  | i :: rest, s =>
    match slotFires c e i s with
    | some r => fire c i r s
    | none => examineSlots c e rest s

/-- An event delivered to a channel's trigger slots, in the order 0, 1, 2, 3 (R166). -/
def deliver (c : Channel) (e : TriggerEvent) (s : State) : State := examineSlots c e (List.finRange 4) s

/-! ## An accepted character (R43, R79, R81) -/

/-- Steps 4 to 7 of a hit (R81). -/
def afterHit (c : Channel) (u : UnitNo) (s : State) : State :=
  s |> marker c .matched u.val |> raise c .matched |> tellRun c (.hit u) |> deliver c (.matched u)

/-- One unit handed a character (R78, R81). -/
def unitSees (c : Channel) (b : Byte) (s : State) (u : UnitNo) : State :=
  let s' := modUnit c u (MatchUnit.see b) s
  if (s.unit c u).completes b then afterHit c u s' else s'

/-- The four units handed a character in the order 0, 1, 2, 3 (R79). A unit that an earlier unit's hit had
armed, or had its progress reset, in this same event sees the character as it then stands (log 36). -/
def watchByte (c : Channel) (b : Byte) (s : State) : State := (List.finRange 4).foldl (unitSees c b) s

/-- An accepted character handed on: to the Capture Store, to Pattern Watch, and, where it was captured,
to a run that was already waiting for bytes when it was (R43, R44, R153; log 14). -/
def acceptByte (c : Channel) (b : Byte) (s : State) : State :=
  let captured := captureByte c b s
  let s' := watchByte c b captured.1
  if captured.2 && s.waitsBytes c then tellRun c .byte s' else s'

end Sys2Proof.Machine
end

