-- ==== Sys2Proof/Machine/ResetCommands.lean ====
section
/-! DEFINITION. The meanings of the resets and of Identify (R17, R181, R182). Each host request's effect
and answer is its `host…` handler; its meaning is the request write of its frame (R177, R178). -/

namespace Sys2Proof.Machine

/-- What a command answers. -/
abbrev Outcome := Host.Outcome State Fault Refusal

/-- POWER_ON_RESET (R18, R33, R58, R75, R87, R100, R124, R143, R164, R170, R174, R182), with the levels
sampled at its end. The clock and the index of free bytes are the model's own and go on; the waiting
commands are the senders'. -/
def execPowerOnReset (pins : Table 8 Pins) (s : State) : Outcome :=
  .next { State.powerOn s.now pins with
    link := { Link.powerOn with formed := s.link.formed }, pending := s.pending }

/-- Every block at its Part Reset values, the uptime restarted, the reply queue empty and REJECT clear
(R18, R33, R58, R75, R87, R100, R124, R143, R164, R170, R174, R182). -/
def partReset (s : State) : State :=
  { s with
    epoch := s.now
    channels := s.channels.map (ChannelState.partReset s.now)
    drives := Table.replicate 4 .reset
    cleanList := []
    pageWaiters := []
    wants := []
    wantCounter := 0
    entryWaiters := []
    spillQueue := []
    spills := []
    spillCounter := 0
    recipes := Table.replicate 8 []
    keys := Table.replicate 8 []
    restarted := true
    mask := .reset
    link := { s.link with replies := [], reject := false } }

/-- Part Reset: always accepted (R182). -/
def hostPartReset : Handler := fun s => done (partReset s)

/-- PART_RESET (R182): its reply is the only entry of the queue. -/
def execPartReset (tag : Byte) (s : State) : Outcome :=
  .next (takeRequest (.partReset tag) hostPartReset s)

/-- A Channel Reset: the channel's blocks at their Channel Reset values, and the page waiters served with
any margin left over (R17, R58, R95). -/
def channelReset (c : Channel) (s : State) : State :=
  s |> modChan c (ChannelState.channelReset s.now s.uptime) |> servePages

/-- Channel Reset (R17). -/
def hostChannelReset (ch : Byte) : Handler := onChannel ch fun c s => done (channelReset c s)

/-- CHANNEL_RESET (R17). -/
def execChannelReset (tag ch : Byte) (s : State) : Outcome :=
  .next (takeRequest (.channelReset tag ch) (hostChannelReset ch) s)

/-- Identify (R181). -/
def hostIdentify : Handler := fun s =>
  done s (put2 0x0840 ++ put1 1 ++ put1 8 ++ put1 4 ++ put2 512 ++ put1 32 ++ put1 8 ++ s.uptime.bytes)

/-- IDENTIFY (R181). -/
def execIdentify (tag : Byte) (s : State) : Outcome := .next (takeRequest (.identify tag) hostIdentify s)

end Sys2Proof.Machine
end

