-- ==== Sys2Proof/Machine/PowerCommands.lean ====
section
/-! DEFINITION. The meanings of the commands of chapter 1: power, pulses, the service lock and their
timers. -/

namespace Sys2Proof.Machine

/-! ## Host requests -/

/-- The checks of a power request after its channel: LOCKED, then RUN_ACTIVE (R4, R5, R7, R13). -/
def powerGuard (c : Channel) (h : Handler) : Handler := fun s =>
  if s.isLocked c then answers .locked [] s
  else if s.running c then answers .runActive [] s
  else h s

/-- The power state of a channel in a reply. -/
def State.putPower (s : State) (c : Channel) : List Byte := put1 (s.chan c).power.state.code

/-- Cut (R4). -/
def hostCut (ch : Byte) : Handler := onChannel ch fun c => powerGuard c fun s =>
  let s' := cutPower c s
  done s' (s'.putPower c)

/-- CUT (R4). -/
def execCut (tag ch : Byte) (s : State) : Outcome := .next (takeRequest (.cut tag ch) (hostCut ch) s)

/-- The hold-off remaining, 0 outside CUT_HOLDOFF (R16). -/
def State.holdoffLeft (s : State) (c : Channel) : Nat :=
  if (s.chan c).power.state = .cutHoldoff then s.remaining (s.chan c).power.holdoffEnd else 0

/-- Supply: DEFERRED in CUT_HOLDOFF, OK elsewhere (R5). The remaining hold-off, which R5 names for DEFERRED
only, is carried with the state in every reply (R180): 0 outside CUT_HOLDOFF (R16). -/
def hostSupply (ch : Byte) : Handler := onChannel ch fun c => powerGuard c fun s =>
  let s' := supplyPower c s
  let body := s'.putPower c ++ put2 (s'.holdoffLeft c)
  if (s.chan c).power.state = .cutHoldoff then (s', ⟨.deferred, body⟩) else done s' body

/-- SUPPLY (R5). -/
def execSupply (tag ch : Byte) (s : State) : Outcome :=
  .next (takeRequest (.supply tag ch) (hostSupply ch) s)

/-- A host's pulse on a line, its duration clamped (R7). -/
def hostPulse (l : Line) (lo hi : Nat) (ch : Byte) (duration : Half) : Handler :=
  onChannel ch fun c => powerGuard c fun s =>
    if ((s.chan c).power.pulse l).isSome then answers .busy [] s
    else
      let d := clamp lo hi duration.toNat
      done (startPulse c l .host d s) (put2 d)

/-- Press Button (R7). -/
def hostPressButton (ch : Byte) (duration : Half) : Handler := hostPulse .button 20 20000 ch duration

/-- PRESS_BUTTON (R7). -/
def execPressButton (tag ch : Byte) (duration : Half) (s : State) : Outcome :=
  .next (takeRequest (.pressButton tag ch duration) (hostPressButton ch duration) s)

/-- Pulse Reset (R7). -/
def hostPulseReset (ch : Byte) (duration : Half) : Handler := hostPulse .reset 10 5000 ch duration

/-- PULSE_RESET (R7). -/
def execPulseReset (tag ch : Byte) (duration : Half) (s : State) : Outcome :=
  .next (takeRequest (.pulseReset tag ch duration) (hostPulseReset ch duration) s)

/-- Power-good qualifies its raw level (R2): HIGH in OFF enters ON, LOW in ON leaves it, in the orders of
R3. -/
def qualifyPg (c : Channel) (s : State) : State :=
  let level := (s.chan c).power.pgRaw
  let s' := modPower c (fun p => { p with pgQualified := level, pgSince := none }) s
  match (s.chan c).power.state, level with
  | .off, true => s' |> enterOn c |> tellRun c (.power true)
  | .on, false =>
    let cause := offCause c s'
    s' |> modPower c (fun p => { p with state := .off })
      |> leaveOn (tellRun c .breakEnded) c cause
      |> (if cause = .spontaneous then deliver c .spontaneousOff else id)
      |> tellRun c (.power false)
  | _, _ => s'

/-- A timing in progress that has already lasted the qualify time in force qualifies (R15). -/
def qualifyIfDue (c : Channel) (s : State) : State :=
  match (s.chan c).power.pgSince with
  | none => s
  | some t => if t + (s.chan c).power.qualifyTime * Config.msUnits ≤ s.now then qualifyPg c s else s

/-- Set Power Settings (R15). -/
def hostSetPowerSettings (ch qualify minimum : Byte) : Handler := onChannel ch fun c s =>
  let q := clamp 1 250 qualify.toNat
  let m := clamp 1 60 minimum.toNat
  done (s |> modPower c (fun p => { p with qualifyTime := q, minimumOff := m }) |> qualifyIfDue c)
    (put1 q ++ put1 m)

/-- SET_POWER_SETTINGS (R15). -/
def execSetPowerSettings (tag ch qualify minimum : Byte) (s : State) : Outcome :=
  .next (takeRequest (.setPowerSettings tag ch qualify minimum) (hostSetPowerSettings ch qualify minimum) s)

/-- What remains of a pulse, 0 when idle (R16). -/
def State.pulseLeft (s : State) : Option Pulse → Nat
  | none => 0
  | some p => s.remaining (p.since + p.duration * Config.msUnits)

/-- Bits of a status byte, bit 0 first. -/
def putBits : List Bool → Nat
  | [] => 0
  | b :: rest => (if b then 1 else 0) + 2 * putBits rest

/-- Power Status, as 11.6 lays it out (R16). Bits 6 and 7 of the second byte, which 11.6 does not name, are 0
(log 34). -/
def hostPowerStatus (ch : Byte) : Handler := onChannel ch fun c s =>
  let p := (s.chan c).power
  done s
    (put1 p.state.code ++
      put1 (putBits [p.button.isSome, p.reset.isSome, p.state.pen, p.pgRaw, p.pendingSupply, p.locked]) ++
      put2 (s.holdoffLeft c) ++ put2 (s.pulseLeft p.button) ++ put2 (s.pulseLeft p.reset) ++
      put1 p.lastCause.code ++ p.lastCauseAt.bytes ++ put1 p.qualifyTime ++ put1 p.minimumOff)

/-- POWER_STATUS (R16). -/
def execPowerStatus (tag ch : Byte) (s : State) : Outcome :=
  .next (takeRequest (.powerStatus tag ch) (hostPowerStatus ch) s)

/-! ## Power-good -/

/-- The moment a level began to differ from the qualified one: a timing in progress goes on, and a return
abandons it (R2, R11, R34, R111). -/
def retime (now : Nat) (level qualified : Bool) (since : Option Nat) : Option Nat :=
  if level = qualified then none else some (since.getD now)

/-- PG_CHANGE (R2): the raw level is timed while PEN is asserted, and ignored while it is not. -/
def execPgChange (c : Channel) (level : Bool) (s : State) : Outcome :=
  .next (modPower c (fun p =>
    { p with
      pgRaw := level
      pgSince := if p.state.pen then retime s.now level p.pgQualified p.pgSince else none }) s)

/-- PG_QUALIFIED (R2, R3), at the end of the qualify time. -/
def execPgQualified (c : Channel) (s : State) : Outcome :=
  .next (match (s.chan c).power.pgSince with
    | none => s
    | some t => s |> State.advanceTo (t + (s.chan c).power.qualifyTime * Config.msUnits) |> qualifyPg c)

/-! ## The hold-off, pulses and windows -/

/-- HOLDOFF_EXPIRY (R6). The end of the hold-off stays stored, unread until the next cut replaces it (log 39). -/
def execHoldoffExpiry (c : Channel) (s : State) : Outcome :=
  let p := (s.chan c).power
  .next (if p.state = .cutHoldoff then
    let s' := s.advanceTo p.holdoffEnd
    if p.pendingSupply then assertPen c s'
    else s' |> modPower c (fun p => { p with state := .cut }) |> raise c .power
  else s)

/-- PULSE_END: a pulse ends naturally (R8). -/
def execPulseEnd (c : Channel) (l : Line) (s : State) : Outcome :=
  .next (match (s.chan c).power.pulse l with
    | none => s
    | some p =>
      let s' := s |> State.advanceTo (p.since + p.duration * Config.msUnits) |> endPulse c l p.duration
      if p.origin = .run then tellRun c (.pulseEnded l) s' else s')

/-- ATTRIBUTION_WINDOW_EXPIRY: the window's moment is reached, and it reads 0 from then on (R9). -/
def execAttributionWindowExpiry (c : Channel) (l : Line) (s : State) : Outcome :=
  .next (s.advanceTo ((s.chan c).power.windowEnd l))

/-! ## The service lock (R11, R12, R14) -/

/-- LOCK_CHANGE (R11). -/
def execLockChange (c : Channel) (level : Bool) (s : State) : Outcome :=
  .next (modPower c (fun p =>
    { p with lockRaw := level, lockSince := retime s.now level p.locked p.lockSince }) s)

/-- LOCKED qualifies, in the order of R12. -/
def lockOn (c : Channel) (s : State) : State :=
  let s' := s
    |> modPower c (fun p => { p with locked := true, lockSince := none })
    |> cutShort c .button (fun _ => true)
    |> cutShort c .reset (fun _ => true)
    |> modPower c (fun p => { p with pendingSupply := false })
    |> marker c .lockOn 0
    |> raise c .lock
  if s'.running c then endRun c .locked s' else s'

/-- LOCK_QUALIFIED_LOCKED (R11, R12). -/
def execLockQualifiedLocked (c : Channel) (s : State) : Outcome :=
  let p := (s.chan c).power
  .next (match p.lockSince, p.locked with
    | some t, false => s |> State.advanceTo (t + Config.lockDebounce * Config.msUnits) |> lockOn c
    | _, _ => s)

/-- LOCK_QUALIFIED_FREE (R11, R14): a marker and nothing else. -/
def execLockQualifiedFree (c : Channel) (s : State) : Outcome :=
  let p := (s.chan c).power
  .next (match p.lockSince, p.locked with
    | some t, true =>
      s |> State.advanceTo (t + Config.lockDebounce * Config.msUnits)
        |> modPower c (fun p => { p with locked := false, lockSince := none })
        |> marker c .lockOff 0
    | _, _ => s)

end Sys2Proof.Machine
end

