-- ==== Sys2Proof/Machine/MonitorCommands.lean ====
section
/-! DEFINITION. The meanings of the commands of chapter 2: the Baud Finder, the Heartbeat Watch, and the
lines they watch. -/

namespace Sys2Proof.Machine

/-! ## The Baud Finder's requests -/

/-- Relearn Baud (R29). -/
def hostRelearnBaud (ch : Byte) : Handler := onChannel ch fun c s =>
  let s' := relearn c s
  done s' (put1 (s'.chan c).finder.state.code)

/-- RELEARN_BAUD (R29). -/
def execRelearnBaud (tag ch : Byte) (s : State) : Outcome :=
  .next (takeRequest (.relearnBaud tag ch) (hostRelearnBaud ch) s)

/-- The finder set to a state with the divisor of a rate, in the order of R30. -/
def setMode (c : Channel) (v : FinderState) (fixedRate rate : Nat) (s : State) : State :=
  s |> modFinder c (fun f =>
        { f with
          state := v, fixedRate := fixedRate, divisor := divisorOf rate, agreement := 0, candidate := none })
    |> raise c .baud
    |> resetProgress c
    |> modFinder c (Finder.restartWindow s.now)

/-- The reply to a Set Baud Mode that takes a rate: the rate, its D, and the state, which R30 names for the
reply of no effect only and R180 has carried in every one: a byte whose value is not stated (logs 9 and 16). -/
def State.putRateTaken (s : State) (rate : Nat) : List Byte :=
  put4 rate ++ put4 (divisorOf rate) ++ s.unstatedBytes 1

/-- The reply to a Set Baud Mode of no effect: the state as found, after the bytes of the rate and of D, which
R30 names for the other replies only and R180 has carried in every one: their values are not stated (logs 9
and 16). -/
def State.putModeFound (s : State) (found : FinderState) : List Byte :=
  s.unstatedBytes 8 ++ put1 found.code

/-- Set Baud Mode FIXED (R30). -/
def hostFixed (c : Channel) (rate : Quad) : Handler := fun s =>
  let r := clamp 300 1000000 rate.toNat
  done (setMode c .fixed r r s) (s.putRateTaken r)

/-- Set Baud Mode AUTO (R30). The host's rate stays stored, unread until FIXED replaces it (log 39). -/
def hostAuto (c : Channel) : Handler := fun s =>
  let f := (s.chan c).finder
  if f.state = .fixed then
    let r := tableRate f.lastLocked
    done (setMode c .hunting f.fixedRate r s) (s.putRateTaken r)
  else done s (s.putModeFound f.state)

/-- Set Baud Mode: AUTO is 0 and FIXED 1 (R30, R180). -/
def hostSetBaudMode (ch mode : Byte) (rate : Quad) : Handler := onChannel ch fun c s =>
  if mode = 0 then hostAuto c s
  else if mode = 1 then hostFixed c rate s
  else answers .badValue [] s

/-- SET_BAUD_MODE (R30). -/
def execSetBaudMode (tag ch mode : Byte) (rate : Quad) (s : State) : Outcome :=
  .next (takeRequest (.setBaudMode tag ch mode rate) (hostSetBaudMode ch mode rate) s)

/-- The five settings in a reply (R31). -/
def FinderSettings.bytes (x : FinderSettings) : List Byte :=
  put2 x.window ++ put1 x.tolerance ++ put1 x.agree ++ put1 x.threshold ++ putFlag x.relearn

/-- The settings taken of a Set Baud Settings (R31). -/
def takenFinder (window : Half) (tolerance agree threshold : Byte) (relearn : Bool) : FinderSettings :=
  ⟨clamp 50 1000 (stepDown 50 window.toNat), clamp 2 8 tolerance.toNat, clamp 2 8 agree.toNat,
    clamp 1 255 threshold.toNat, relearn⟩

/-- Set Baud Settings (R31). -/
def hostSetBaudSettings (ch : Byte) (window : Half) (tolerance agree threshold relearn : Byte) : Handler :=
  onChannel ch fun c => onFlag relearn fun on s =>
    let x := takenFinder window tolerance agree threshold on
    done (modFinder c (fun f => { f with settings := x }) s) x.bytes

/-- SET_BAUD_SETTINGS (R31). -/
def execSetBaudSettings (tag ch : Byte) (window : Half) (tolerance agree threshold relearn : Byte)
    (s : State) : Outcome :=
  .next (takeRequest (.setBaudSettings tag ch window tolerance agree threshold relearn)
    (hostSetBaudSettings ch window tolerance agree threshold relearn) s)

/-- The rate in use as a reply gives it: a table index, or in FIXED the host's rate (R32). -/
def Finder.putRate (f : Finder) : List Byte :=
  put4 (if f.state = .fixed then f.fixedRate else f.lastLocked.val)

/-- A verdict in a reply: its choice and a candidate index, a byte the spec does not state elsewhere
(R32; log 9). -/
def Verdict.bytes (free : Byte) : Verdict → List Byte
  | .sparse => [0, free]
  | .outOfTolerance => [1, free]
  | .candidate r => [2, BitVec.ofNat 8 r.val]
  | .none => [3, free]

/-- The last-window figures in a reply (R32). -/
def WindowFigures.bytes (free : Byte) (w : WindowFigures) : List Byte :=
  put2 w.q ++ putItem 2 (w.m.map put2) ++ put1 w.f ++ w.verdict.bytes free ++ putItem 4 (w.error.map put4)

/-- Baud Status (R32). -/
def hostBaudStatus (ch : Byte) : Handler := onChannel ch fun c s =>
  let f := (s.chan c).finder
  done s
    (put1 f.state.mode ++ put1 f.state.code ++ f.putRate ++ put4 f.divisor ++ put1 f.lastLocked.val ++
      putItem 1 (f.candidate.map fun r => put1 r.val) ++ put1 f.agreement ++
      cap2 (s.elapsed f.windowStart) ++ f.last.bytes (s.unstated 0) ++ f.settings.bytes)

/-- BAUD_STATUS (R32). -/
def execBaudStatus (tag ch : Byte) (s : State) : Outcome :=
  .next (takeRequest (.baudStatus tag ch) (hostBaudStatus ch) s)

/-- BAUD_WINDOW_END (R22), at the end of the window in progress. -/
def execBaudWindowEnd (c : Channel) (s : State) : Outcome :=
  let f := (s.chan c).finder
  .next (s |> State.advanceTo (f.windowStart + f.windowLength * Config.msUnits) |> baudWindow c)

/-! ## The receive line (R21) -/

/-- RXD_RAW_CHANGE (R21), `gap` ticks after the clock's moment. A change under its test that returns
within 32 ticks is dropped; one that has lasted 32 ticks has survived, and the return opens a test of
its own. -/
def execRxdRawChange (c : Channel) (level : Bool) (gap : Nat) (s : State) : Outcome :=
  let s' := s.advanceTicks gap
  let f := (s'.chan c).finder
  .next (if level = f.rxdRaw then s'
    else match f.edgeAt with
      | none => modFinder c (fun f => { f with rxdRaw := level, edgeAt := some s'.now }) s'
      | some t =>
        if s'.now < t + Config.filterUnits then
          modFinder c (fun f => { f with rxdRaw := level, edgeAt := none }) s'
        else
          s' |> surviveEdge c t
            |> modFinder c (fun f => { f with rxdRaw := level, edgeAt := some s'.now }))

/-- SURVIVING_EDGE (R21), 32 ticks after the raw line changed. -/
def execSurvivingEdge (c : Channel) (s : State) : Outcome :=
  .next (match (s.chan c).finder.edgeAt with
    | none => s
    | some t => s |> State.advanceTo (t + Config.filterUnits) |> surviveEdge c t)

/-! ## The Heartbeat Watch -/

/-- The watch's settings in a reply (R39). -/
def WatchSettings.bytes (x : WatchSettings) : List Byte :=
  putFlag x.enable ++ put2 x.window ++ put2 x.sp1 ++ put2 x.sp2 ++ put1 x.streak

/-- The settings taken of a Set Heartbeat Settings (R39). -/
def takenWatch (enable : Bool) (window sp1 sp2 : Half) (streak : Byte) : WatchSettings :=
  ⟨enable, clamp 250 4000 (stepDown 250 window.toNat), sp1.toNat, sp2.toNat, clamp 1 15 streak.toNat⟩

/-- The settings replaced; turning the enable on or off may open or close the gate (R35, R39). -/
def setWatch (c : Channel) (x : WatchSettings) (s : State) : State :=
  let was := (s.chan c).watch.settings.enable
  let s' := modWatch c (fun w => { w with settings := x }) s
  if x.enable && !was then openWatchGate c s'
  else if was && !x.enable then closeWatchGate c s'
  else s'

/-- Set Heartbeat Settings (R39). -/
def hostSetHeartbeatSettings (ch enable : Byte) (window sp1 sp2 : Half) (streak : Byte) : Handler :=
  onChannel ch fun c => onFlag enable fun on s =>
    let x := takenWatch on window sp1 sp2 streak
    done (setWatch c x s) x.bytes

/-- SET_HEARTBEAT_SETTINGS (R39). -/
def execSetHeartbeatSettings (tag ch enable : Byte) (window sp1 sp2 : Half) (streak : Byte) (s : State) :
    Outcome :=
  .next (takeRequest (.setHeartbeatSettings tag ch enable window sp1 sp2 streak)
    (hostSetHeartbeatSettings ch enable window sp1 sp2 streak) s)

/-- The gate, a choice listed open, closed; and the level, listed high, low (R40, R180). -/
def putChoice2 (first : Bool) : List Byte := [if first then 0 else 1]

/-- Heartbeat Status (R40). -/
def hostHeartbeatStatus (ch : Byte) : Handler := onChannel ch fun c s =>
  let w := (s.chan c).watch
  done s
    (put1 w.state.code ++ putChoice2 (gateOpen c s) ++ putChoice2 w.qualified ++
      put2 (if w.state = .idle then 0 else w.count) ++
      cap2 (if w.state = .idle then 0 else s.elapsed w.windowStart) ++
      put2 w.held ++ w.heldAt.bytes ++ put1 w.lowStreak ++ putFlag w.fastRaised ++ w.settings.bytes)

/-- HEARTBEAT_STATUS (R40). -/
def execHeartbeatStatus (tag ch : Byte) (s : State) : Outcome :=
  .next (takeRequest (.heartbeatStatus tag ch) (hostHeartbeatStatus ch) s)

/-- HB_CHANGE (R34). -/
def execHbChange (c : Channel) (level : Bool) (s : State) : Outcome :=
  .next (modWatch c (fun w =>
    { w with raw := level, since := retime s.now level w.qualified w.since }) s)

/-- A heartbeat edge counted while the gate is open (R34). -/
def countEdge (c : Channel) (s : State) : State :=
  if gateOpen c s then modWatch c (fun w => { w with count := min 65535 (w.count + 1) }) s else s

/-- HEARTBEAT_EDGE (R34): the level qualifies high. -/
def execHeartbeatEdge (c : Channel) (s : State) : Outcome :=
  let w := (s.chan c).watch
  .next (match w.since, w.qualified with
    | some t, false =>
      s |> State.advanceTo (t + Config.hbDebounce * Config.msUnits)
        |> modWatch c (fun w => { w with qualified := true, since := none })
        |> countEdge c
    | _, _ => s)

/-- HEARTBEAT_QUALIFIED_LOW (R34): the level qualifies low, and no edge is counted. -/
def execHeartbeatQualifiedLow (c : Channel) (s : State) : Outcome :=
  let w := (s.chan c).watch
  .next (match w.since, w.qualified with
    | some t, true =>
      s |> State.advanceTo (t + Config.hbDebounce * Config.msUnits)
        |> modWatch c (fun w => { w with qualified := false, since := none })
    | _, _ => s)

/-- The count moved to the held count and stamped, and the next window started (R36). -/
def holdCount (c : Channel) (s : State) : State :=
  modWatch c (fun w =>
    { w with
      held := w.count, heldAt := s.uptime, count := 0
      windowStart := w.windowStart + w.windowLength * Config.msUnits, windowLength := w.settings.window }) s

/-- Raising HANG, in the order of R36. -/
def raiseHang (c : Channel) (s : State) : State :=
  s |> marker c .hang 0 |> raise c .hang |> deliver c .hang

/-- The held count compared with SP2 (R36). HUNG is entered before HANG's three results, the last of which
delivers the event (log 32). -/
def compareLow (c : Channel) (held : Nat) (s : State) : State :=
  let w := (s.chan c).watch
  if held < w.settings.sp2 then
    let streak := min 255 (w.lowStreak + 1)
    if w.state = .watching ∧ w.settings.streak ≤ streak then
      s |> modWatch c (fun w => { w with lowStreak := streak, state := .hung }) |> raiseHang c
    else modWatch c (fun w => { w with lowStreak := streak }) s
  else
    modWatch c (fun w =>
      { w with lowStreak := 0, state := if w.state = .hung then .watching else w.state }) s

/-- The held count compared with SP1 (R37). The FAST-raised indicator is set before FAST's results, the
last of which delivers the event (log 32). -/
def compareFast (c : Channel) (held : Nat) (s : State) : State :=
  let w := (s.chan c).watch
  if w.settings.sp1 < held then
    if w.fastRaised then s
    else
      s |> modWatch c (fun w => { w with fastRaised := true })
        |> marker c .fast 0 |> raise c .fast |> deliver c .fast
  else modWatch c (fun w => { w with fastRaised := false }) s

/-- A window end of the watch (R36 to R38), handed to a run that was already waiting for one (R154;
log 14). -/
def watchWindow (c : Channel) (s : State) : State :=
  let w := (s.chan c).watch
  let s' := s |> holdCount c |> compareLow c w.count |> compareFast c w.count
  if s.waitsWindow c then tellRun c (.window (w.settings.sp2 ≤ w.count)) s' else s'

/-- HEARTBEAT_WINDOW_END (R36 to R38). -/
def execHeartbeatWindowEnd (c : Channel) (s : State) : Outcome :=
  let w := (s.chan c).watch
  .next (if gateOpen c s then
    s |> State.advanceTo (w.windowStart + w.windowLength * Config.msUnits) |> watchWindow c
  else s)

end Sys2Proof.Machine
end

