-- ==== Sys2Proof/Machine/CaptureCommands.lean ====
section
/-! DEFINITION. The meanings of the commands of chapter 3: the Capture Store's requests and the
characters the receiver completes. -/

namespace Sys2Proof.Machine

/-! ## Requests -/

/-- The limits of a store in a reply, with the pages it holds (R48, R49). -/
def Store.putLimits (st : Store) : List Byte := put1 st.floor ++ put1 st.ceiling ++ put1 st.pages.length

/-- Set Capture Limits (R48 to R50): refused where the condition it would leave breaks the floor
guarantee. -/
def hostSetCaptureLimits (ch floor ceiling : Byte) : Handler := onChannel ch fun c s =>
  let f := clamp 2 32 floor.toNat
  let s' := setLimits c f (clamp f 64 ceiling.toNat) s
  if s'.unmet ≤ s'.reclaimable then done (servePages s') (s'.chan c).store.putLimits
  else answers .floorUnavailable (s.chan c).store.putLimits s

/-- SET_CAPTURE_LIMITS (R48). -/
def execSetCaptureLimits (tag ch floor ceiling : Byte) (s : State) : Outcome :=
  .next (takeRequest (.setCaptureLimits tag ch floor ceiling) (hostSetCaptureLimits ch floor ceiling) s)

/-- Console Read (R54, R55). -/
def hostConsoleRead (ch : Byte) (start : Pos48) (maximum : Half) (skip : Byte) : Handler :=
  onChannel ch fun c s =>
    done s ((s.chan c).store.read start.toNat maximum.toNat skip.toNat).bodyBytes

/-- CONSOLE_READ (R54). -/
def execConsoleRead (tag ch : Byte) (start : Pos48) (maximum : Half) (skip : Byte) (s : State) : Outcome :=
  .next (takeRequest (.consoleRead tag ch start maximum skip) (hostConsoleRead ch start maximum skip) s)

/-- Console Status (R56). -/
def hostConsoleStatus (ch : Byte) : Handler := onChannel ch fun c s =>
  let st := (s.chan c).store
  let f := (s.chan c).finder
  done s
    (put6 st.oldest ++ put6 st.next ++ put1 st.pages.length ++ put1 st.floor ++ put1 st.ceiling ++
      put1 st.markers.length ++ put1 f.state.mode ++ put1 f.state.code ++ f.putRate)

/-- CONSOLE_STATUS (R56). -/
def execConsoleStatus (tag ch : Byte) (s : State) : Outcome :=
  .next (takeRequest (.consoleStatus tag ch) (hostConsoleStatus ch) s)

/-! ## Characters (R41 to R43) -/

/-- The ten samples of a character: those taken, and the level the line holds for the rest (R41). -/
def fullSamples (samples : List Bool) (level : Bool) : List Bool :=
  samples ++ List.replicate (10 - samples.length) level

/-- Bits, least significant first, as a byte (R41). -/
def byteOfBits (bits : List Bool) : Byte :=
  BitVec.ofNat 8 (putBits bits)

/-- The receiver with a character in ASSEMBLE: what the next sample point of a kind would find. -/
structure Sampled where
  since : Nat
  divisor : Nat
  taken : List Bool
  all : List Bool
  deriving DecidableEq, Repr

/-- The samples of the character in progress, if one is (R41): those not yet taken are of the filtered
level as it stands, so a change still under its 32-tick test is not in them (log 31). -/
def State.sampled (s : State) (c : Channel) : Option Sampled :=
  match (s.chan c).framing with
  | .assemble since d taken => some ⟨since, d, taken, fullSamples taken (s.chan c).finder.rxdLevel⟩
  | _ => none

/-- CHARACTER_ACCEPTED (R41, R43): the stop bit is sampled high, and the character is handed on. -/
def execCharacterAccepted (c : Channel) (s : State) : Outcome :=
  .next (match s.sampled c with
    | none => s
    | some x =>
      if x.all[0]? = some false ∧ x.all[9]? = some true then
        s |> State.advanceTo (samplePoint x.since x.divisor 9)
          |> setFraming c .waitStart
          |> acceptByte c (byteOfBits ((x.all.drop 1).take 8))
      else s)

/-- FRAMING_ERROR (R41, R42): the stop bit is sampled low; the error is counted, and the receiver waits
for the line to be high. -/
def execFramingError (c : Channel) (s : State) : Outcome :=
  .next (match s.sampled c with
    | none => s
    | some x =>
      if x.all[0]? = some false ∧ x.all[9]? = some false then
        s |> State.advanceTo (samplePoint x.since x.divisor 9)
          |> setFraming c (.waitHighAt (s.chan c).finder.rxdLevel)
          |> countFraming c
      else s)

/-- FALSE_START (R41): the start bit is sampled high. -/
def execFalseStart (c : Channel) (s : State) : Outcome :=
  .next (match s.sampled c with
    | none => s
    | some x =>
      if x.taken.isEmpty ∧ x.all[0]? = some true then
        s |> State.advanceTo (samplePoint x.since x.divisor 0) |> setFraming c .waitStart
      else s)

end Sys2Proof.Machine
end

