-- ==== Sys2Proof/Machine/TransmitCommands.lean ====
section
/-! DEFINITION. The meanings of the commands of chapter 4: the Console Transmitter. -/

namespace Sys2Proof.Machine

/-! ## Requests -/

/-- Send Console (R61): as many of the first 256 bytes as fit are queued. -/
def hostSendConsole (ch : Byte) (bytes : List Byte) : Handler := onChannel ch fun c s =>
  if !s.powered c then answers .wrongState [] s
  else
    let room := Config.queueDepth - (s.chan c).tx.queue.length
    let taken := bytes.take (min 256 room)
    done (s |> modTx c (fun t => { t with queue := t.queue ++ taken }) |> arbitrate c)
      (put2 taken.length ++ put2 (room - taken.length))

/-- SEND_CONSOLE (R61). -/
def execSendConsole (tag ch : Byte) (bytes : List Byte) (s : State) : Outcome :=
  .next (takeRequest (.sendConsole tag ch bytes) (hostSendConsole ch bytes) s)

/-- Flush Console TX (R62). -/
def hostFlushConsoleTx (ch : Byte) : Handler := onChannel ch fun c s =>
  done (s |> modTx c (fun t => { t with queue := [] }) |> arbitrate c)
    (put2 (s.chan c).tx.queue.length)

/-- FLUSH_CONSOLE_TX (R62). -/
def execFlushConsoleTx (tag ch : Byte) (s : State) : Outcome :=
  .next (takeRequest (.flushConsoleTx tag ch) (hostFlushConsoleTx ch) s)

/-- Send Break (R67). -/
def hostSendBreak (ch : Byte) (duration : Half) : Handler := onChannel ch fun c s =>
  if !s.powered c then answers .wrongState [] s
  else if (s.chan c).tx.brk.isSome then answers .busy [] s
  else
    let d := clamp 10 2550 duration.toNat
    done (requestBreak c .host d s) (put2 d)

/-- SEND_BREAK (R67). -/
def execSendBreak (tag ch : Byte) (duration : Half) (s : State) : Outcome :=
  .next (takeRequest (.sendBreak tag ch duration) (hostSendBreak ch duration) s)

/-- A hold ended, the arbiter choosing again at a byte boundary (R70). -/
def endHold (c : Channel) (s : State) : State :=
  if (s.chan c).tx.hold.isSome then s |> modTx c (fun t => { t with hold := none }) |> arbitrate c else s

/-- A hold that has already lasted the limit in force stalls (R71, R73). -/
def stallIfDue (c : Channel) (s : State) : State :=
  let t := (s.chan c).tx
  match t.hold with
  | none => s
  | some since =>
    if t.stallLimit ≠ 0 ∧ since + t.stallLimit * 1000 * Config.msUnits ≤ s.now then stall c s else s

/-- Set Transmit Settings (R73); flow control turned off ends the hold before the limit is looked at
(log 29). -/
def hostSetTransmitSettings (ch flow stallLimit : Byte) : Handler :=
  onChannel ch fun c => onFlag flow fun on s =>
    let l := if stallLimit = 0 then 0 else clamp 1 60 stallLimit.toNat
    let s' := modTx c (fun t => { t with flow := on, stallLimit := l }) s
    done (if on then stallIfDue c s' else endHold c s') (putFlag on ++ put1 l)

/-- SET_TRANSMIT_SETTINGS (R73). -/
def execSetTransmitSettings (tag ch flow stallLimit : Byte) (s : State) : Outcome :=
  .next (takeRequest (.setTransmitSettings tag ch flow stallLimit)
    (hostSetTransmitSettings ch flow stallLimit) s)

/-- The countdown to the next due, in ms, or none (R64, R74). -/
def State.countdownLeft (s : State) : Countdown → Option Nat
  | .none => none
  | .running t => some (s.remaining t)
  | .frozen r => some ((r + (Config.msUnits - 1)) / Config.msUnits)

/-- The slot's rows of Transmit Status (R74). -/
def State.putSlot (s : State) (k : Option KeySlot) : List Byte :=
  putFlag k.isSome ++
    putItem 2 (k.map fun k => put1 k.number.val ++ put1 k.string.length) ++
    putItem 2 (k.map fun k => put2 k.interval) ++
    putItem 2 (k.map fun k => putFlag k.due ++ putFlag k.spent) ++
    putItem 2 ((k.bind fun k => s.countdownLeft k.countdown).map put2) ++
    putItem 1 ((k.bind (·.progress)).map put1)

/-- The break record in Transmit Status, an item that may be none: pending 0 or sending 1, its duration,
time held and origin (R74, R180; log 16). -/
def State.putBreak (s : State) (b : Option Break) : List Byte :=
  putItem 6 (b.map fun b =>
    putFlag b.since.isSome ++ put2 b.duration ++ put2 (b.heldMs s.now) ++ put1 b.origin.code)

/-- The time a hold has lasted, in ms, 0 with none (R74). -/
def State.holdElapsed (s : State) (c : Channel) : Nat :=
  match (s.chan c).tx.hold with
  | none => 0
  | some t => s.elapsed t

/-- Transmit Status (R74). Sn_RTR asserted is 1 and deasserted 0 (log 16). -/
def hostTransmitStatus (ch : Byte) : Handler := onChannel ch fun c s =>
  let t := (s.chan c).tx
  done s
    (put1 (s.txState c).code ++ put2 t.queue.length ++ s.putSlot t.slot ++ s.putBreak t.brk ++
      putFlag t.rtr ++ cap4 (s.holdElapsed c) ++ putFlag t.flow ++ put1 t.stallLimit)

/-- TRANSMIT_STATUS (R74). -/
def execTransmitStatus (tag ch : Byte) (s : State) : Outcome :=
  .next (takeRequest (.transmitStatus tag ch) (hostTransmitStatus ch) s)

/-! ## The line's events -/

/-- The end of a pass, where the character that ended was its last: a once slot is spent and the run is
told (R65). -/
def endPass (c : Channel) (s : State) : State :=
  match (s.chan c).tx.slot with
  | none => s
  | some k =>
    if k.allSent then
      let s' := modTx c (fun t => { t with slot := t.slot.map KeySlot.complete }) s
      if k.interval = 0 then tellRun c .passDone s' else s'
    else s

/-- CHARACTER_END (R60, R65, R69): the run is told of a completed pass before the arbiter chooses
(log 33). -/
def execCharacterEnd (c : Channel) (s : State) : Outcome :=
  .next (match (s.chan c).tx.char with
    | none => s
    | some x =>
      s |> State.advanceTo (x.since + 10 * x.divisor)
        |> settleEnd c (fun s => s |> modTx c (fun t => { t with char := none }) |> endPass c))

/-- BREAK_END: a break ends naturally, in the order of R68. -/
def execBreakEnd (c : Channel) (s : State) : Outcome :=
  .next (match (s.chan c).tx.brk with
    | some ⟨origin, duration, some t⟩ =>
      s |> State.advanceTo (t + duration * Config.msUnits)
        |> settleEnd c (fun s =>
            let s' := endBreak c duration s
            if origin = .run then tellRun c .breakEnded s' else s')
    | _ => s)

/-- KEY_COUNTDOWN_EXPIRY (R64, R69). -/
def execKeyCountdownExpiry (c : Channel) (s : State) : Outcome :=
  .next (match (s.chan c).tx.slot with
    | none => s
    | some k =>
      match k.countdown with
      | .running t =>
        s |> State.advanceTo t
          |> modTx c (fun x => { x with slot := some { k with due := true, countdown := .none } })
          |> arbitrate c
      | _ => s)

/-- RTR_ASSERTED, with the level the line takes: asserted, it ends a hold; deasserted, it is read at the
next byte boundary (R70; log 17). -/
def execRtrAsserted (c : Channel) (level : Bool) (s : State) : Outcome :=
  let s' := modTx c (fun t => { t with rtr := level }) s
  .next (if level then endHold c s' else s')

/-- STALL_EXPIRY (R71). -/
def execStallExpiry (c : Channel) (s : State) : Outcome :=
  let t := (s.chan c).tx
  .next (match t.hold with
    | none => s
    | some since =>
      if t.stallLimit = 0 then s
      else s |> State.advanceTo (since + t.stallLimit * 1000 * Config.msUnits) |> stall c)

end Sys2Proof.Machine
end

