-- ==== Sys2Proof/Machine/PatternCommands.lean ====
section
/-! DEFINITION. The meanings of the requests of chapter 5: Set Pattern, Arm Match, Disarm Match and Read
Match. -/

namespace Sys2Proof.Machine

/-- A handler for a request that names a channel and a unit (4.4). -/
def onUnit (ch unit : Byte) (h : Channel → UnitNo → Handler) : Handler :=
  onChannel ch fun c s =>
    match ident? 4 unit with
    | none => answers .badValue [] s
    | some u => h c u s

/-- The unit's state in a reply. -/
def State.putUnit (s : State) (c : Channel) (u : UnitNo) : List Byte := put1 (s.unit c u).state.code

/-- Set Pattern (R83): the mode is ONE_SHOT 0 or COUNTING 1, and a WAIT MATCH waiting on a unit that has
become UNSET is told. -/
def hostSetPattern (ch unit fold mode : Byte) (pattern : List Byte) : Handler :=
  onUnit ch unit fun c u => onFlag fold fun on => onFlag mode fun counting s =>
    let s' := modUnit c u (fun _ => MatchUnit.setTo pattern on counting) s
    let s'' := if pattern.isEmpty then tellRun c (.unset u) s' else s'
    done s'' (put1 (pattern.take 16).length ++ s''.putUnit c u)

/-- SET_PATTERN (R83). -/
def execSetPattern (tag ch unit fold mode : Byte) (pattern : List Byte) (s : State) : Outcome :=
  .next (takeRequest (.setPattern tag ch unit fold mode pattern)
    (hostSetPattern ch unit fold mode pattern) s)

/-- Arm Match (R84). -/
def hostArmMatch (ch unit : Byte) : Handler := onUnit ch unit fun c u s =>
  if (s.unit c u).state = .unset then answers .wrongState [] s
  else
    let s' := modUnit c u MatchUnit.arm s
    done s' (s'.putUnit c u)

/-- ARM_MATCH (R84). -/
def execArmMatch (tag ch unit : Byte) (s : State) : Outcome :=
  .next (takeRequest (.armMatch tag ch unit) (hostArmMatch ch unit) s)

/-- Disarm Match (R85). -/
def hostDisarmMatch (ch unit : Byte) : Handler := onUnit ch unit fun c u s =>
  if (s.unit c u).state = .unset then answers .wrongState [] s
  else
    let s' := modUnit c u MatchUnit.disarm s
    done s' (s'.putUnit c u)

/-- DISARM_MATCH (R85). -/
def execDisarmMatch (tag ch unit : Byte) (s : State) : Outcome :=
  .next (takeRequest (.disarmMatch tag ch unit) (hostDisarmMatch ch unit) s)

/-- A unit's record in a reply; the pattern bytes stand last, a run of length 0 in UNSET with no presence byte
(R86, R180; log 16). -/
def MatchUnit.bytes (u : MatchUnit) : List Byte :=
  put1 u.state.code ++ putFlag u.counting ++ putFlag u.fold ++ put1 u.pattern.length ++ put1 u.hits ++
    putFlag u.pending ++ put1 u.progress ++ u.pattern

/-- Read Match (R86). -/
def hostReadMatch (ch unit : Byte) : Handler := onUnit ch unit fun c u s => done s (s.unit c u).bytes

/-- READ_MATCH (R86). -/
def execReadMatch (tag ch unit : Byte) (s : State) : Outcome :=
  .next (takeRequest (.readMatch tag ch unit) (hostReadMatch ch unit) s)

end Sys2Proof.Machine
end

