-- ==== Sys2Proof/Machine/DriveCommands.lean ====
section
/-! DEFINITION. The meanings of Pool Status (chapter 6) and of the host's requests of chapter 7. -/

namespace Sys2Proof.Machine

/-! ## The pool's counts -/

/-- Pages of all drives in a cache state. -/
def State.countPages (s : State) (st : CacheState) : Nat :=
  (s.drives.entries.map fun d => countState st d.map).sum

/-- The sum of the channels' floors (R99). -/
def State.floors (s : State) : Nat := s.sumChannels fun c => c.store.floor

/-- Pool Status, as 11.6 lays it out (R99). -/
def hostPoolStatus : Handler := fun s =>
  done s
    (put2 s.freePages ++ put2 s.consolePages ++ put2 s.cleanPages ++ put1 (s.countPages .filling) ++
      put2 (s.countPages .dirty) ++ put2 (s.countPages .spilling + s.countPages .spillingDirty) ++
      put2 s.unmet ++ put2 s.floors ++ put2 s.margin ++ put1 s.pageWaiters.length)

/-- POOL_STATUS (R99). -/
def execPoolStatus (tag : Byte) (s : State) : Outcome :=
  .next (takeRequest (.poolStatus tag) hostPoolStatus s)

/-! ## Load and Unload -/

/-- The seven fields of a descriptor in a reply (R101). -/
def Descriptor.bytes (d : Descriptor) : List Byte :=
  put2 d.blockSize ++ put4 d.capacity ++ putFlag d.writeProtect ++ put2 d.dirtyLimit ++ put1 d.readahead ++
    put2 d.fillTimeout ++ put2 d.spillTimeout

/-- The image geometry in a reply (R102, R104). -/
def Descriptor.geometry (d : Descriptor) : List Byte :=
  put1 d.blocksPerPage ++ put4 d.imagePages ++ put1 d.lastValid

/-- The drive's state in a reply. -/
def State.putDrive (s : State) (d : DriveNo) : List Byte := put1 (s.drive d).state.code

/-- An accepted Load Drive: the pages of an IDLE drive freed, the descriptor stored, IDLE, DRIVE raised
(R104). -/
def loadDescriptor (d : DriveNo) (x : Descriptor) (s : State) : State :=
  s |> freeDrive d
    |> modDrive d (fun v => { v with descriptor := some x, state := .idle })
    |> raiseDrive d

/-- Load Drive (R101, R104). -/
def hostLoadDrive (drive : Byte) (r : DescriptorRecord) : Handler :=
  onDrive drive fun d => onFlag r.writeProtect fun wp s =>
    let size := r.blockSize.toNat
    if size ≠ 512 ∧ size ≠ 4096 then answers .badValue [] s
    else if (s.drive d).state ≠ .empty ∧ (s.drive d).state ≠ .idle then answers .wrongState [] s
    else
      let x := takenDescriptor r wp
      let s' := loadDescriptor d x s
      done s' (s'.putDrive d ++ x.bytes ++ x.geometry)

/-- LOAD_DRIVE (R101, R104). -/
def execLoadDrive (tag drive : Byte) (r : DescriptorRecord) (s : State) : Outcome :=
  .next (takeRequest (.loadDrive tag drive r) (hostLoadDrive drive r) s)

/-- An accepted Unload Drive (R104). -/
def unloadDescriptor (d : DriveNo) (s : State) : State :=
  s |> freeDrive d |> modDrive d (fun v => { v with descriptor := none, state := .empty }) |> raiseDrive d

/-- Unload Drive (R104). -/
def hostUnloadDrive (drive : Byte) : Handler := onDrive drive fun d s =>
  if (s.drive d).state ≠ .idle then answers .wrongState [] s
  else
    let s' := unloadDescriptor d s
    done s' (s'.putDrive d ++ put2 (s.drive d).map.length)

/-- UNLOAD_DRIVE (R104). -/
def execUnloadDrive (tag drive : Byte) (s : State) : Outcome :=
  .next (takeRequest (.unloadDrive tag drive) (hostUnloadDrive drive) s)

/-! ## Insert, Eject and presence -/

/-- Insert (R105). -/
def hostInsert (drive ch : Byte) : Handler := onDrive drive fun d => onChannel ch fun c s =>
  match insertRefusal d c s with
  | some st => answers st [] s
  | none =>
    let s' := insertDrive d c s
    done s' (s'.putDrive d ++ put1 (s'.chan c).port.state.code)

/-- INSERT (R105). -/
def execInsert (tag drive ch : Byte) (s : State) : Outcome :=
  .next (takeRequest (.insert tag drive ch) (hostInsert drive ch) s)

/-- Eject (R106). -/
def hostEject (drive force : Byte) : Handler := onDrive drive fun d => onFlag force fun f s =>
  match ejectDrive d f .host s with
  | none => answers .wrongState [] s
  | some s' => done s' (s'.putDrive d)

/-- EJECT (R106). -/
def execEject (tag drive force : Byte) (s : State) : Outcome :=
  .next (takeRequest (.eject tag drive force) (hostEject drive force) s)

/-- The presence setting set on or off (R111). -/
def setPresence (c : Channel) (on : Bool) (s : State) : State :=
  let p := (s.chan c).port
  let s' := modPort c (fun p => { p with presence := on }) s
  if on then if p.state = .off then setPortState c (.byVbus p.vbus) s' else s'
  else if p.state = .off then s' else dropBus c .off s'

/-- Set Port Presence (R111). -/
def hostSetPortPresence (ch presence : Byte) : Handler := onChannel ch fun c => onFlag presence fun on s =>
  let s' := setPresence c on s
  done s' (put1 (s'.chan c).port.state.code)

/-- SET_PORT_PRESENCE (R111). -/
def execSetPortPresence (tag ch presence : Byte) (s : State) : Outcome :=
  .next (takeRequest (.setPortPresence tag ch presence) (hostSetPortPresence ch presence) s)

/-! ## Status -/

/-- Wants of a drive, POSTED or TAKEN. -/
def State.countWants (s : State) (d : DriveNo) (taken : Bool) : Nat :=
  s.wants.countP fun w => w.drive = d && w.taken == taken

/-- Drive Status (R122): clean, dirty and spilling counts in 2 bytes, filling in 1 (log 16). -/
def hostDriveStatus (drive : Byte) : Handler := onDrive drive fun d s =>
  let x := s.drive d
  done s
    (put1 x.state.code ++ putItem 1 (x.bound.map fun c => put1 c.val) ++ putFlag x.changeOwed ++
      putFlag x.ejectRequested ++ putItem 14 (x.descriptor.map Descriptor.bytes) ++
      putItem 5 (x.descriptor.map fun k => put4 k.imagePages ++ put1 k.lastValid) ++
      put2 (countState .clean x.map) ++ put1 (countState .filling x.map) ++ put2 (countState .dirty x.map) ++
      put2 (countState .spilling x.map + countState .spillingDirty x.map) ++
      put1 (s.countWants d false) ++ put1 (s.countWants d true) ++
      put1 (s.spills.countP fun p => p.drive = d))

/-- DRIVE_STATUS (R122). -/
def execDriveStatus (tag drive : Byte) (s : State) : Outcome :=
  .next (takeRequest (.driveStatus tag drive) (hostDriveStatus drive) s)

/-- The request carries an lba and a count (R114). -/
def RequestKind.hasBlocks : RequestKind → Bool
  | .readBlocks => true
  | .writeBlocks => true
  | _ => false

/-- A request in progress in Port Status: kind, lba, count, blocks transferred and what it waits on; the
lba and count of a kind that carries none are bytes the spec does not state (R123; log 9). -/
def State.putRequest (s : State) (r : Request) : List Byte :=
  put1 r.kind.code ++
    (if r.kind.hasBlocks then put4 r.lba ++ put1 r.count
     else [s.unstated 0, s.unstated 1, s.unstated 2, s.unstated 3, s.unstated 4]) ++
    put1 r.done ++ put1 (Wait.code r.wait)

/-- Port Status (R123). -/
def hostPortStatus (ch : Byte) : Handler := onChannel ch fun c s =>
  let p := (s.chan c).port
  done s
    (put1 p.state.code ++ putFlag p.presence ++ putChoice2 p.vbus ++ putFlag p.removalLock ++
      putFlag p.remoteWake ++ putItem 8 (p.request.map s.putRequest) ++
      putItem 5 (p.last.map fun k => put1 k.status.code ++ k.time.bytes))

/-- PORT_STATUS (R123). -/
def execPortStatus (tag ch : Byte) (s : State) : Outcome :=
  .next (takeRequest (.portStatus tag ch) (hostPortStatus ch) s)

end Sys2Proof.Machine
end

