-- ==== Sys2Proof/Machine/PortCommands.lean ====
section
/-! DEFINITION. The meanings of the events of the media ports (chapter 7): VBUS, the USB host's bus events
and its block requests, and the deadlines of the waits a request enters (chapters 6 to 8). -/

namespace Sys2Proof.Machine

/-! ## VBUS and the bus (R111, R112) -/

/-- VBUS_CHANGE (R111). -/
def execVbusChange (c : Channel) (level : Bool) (s : State) : Outcome :=
  .next (modPort c (fun p =>
    { p with vbusRaw := level, vbusSince := retime s.now level p.vbus p.vbusSince }) s)

/-- The port acts on a qualified change of VBUS (R111). -/
def actOnVbus (c : Channel) (s : State) : State :=
  let p := (s.chan c).port
  if p.vbus then if p.state = .noVbus then setPortState c .attached s else s
  else if p.state.onBus then dropBus c .noVbus s else s

/-- VBUS_QUALIFIED (R111): the qualified level takes the raw one. -/
def execVbusQualified (c : Channel) (s : State) : Outcome :=
  .next (match (s.chan c).port.vbusSince with
    | none => s
    | some t =>
      s |> State.advanceTo (t + Config.vbusDebounce * Config.msUnits)
        |> modPort c (fun p => { p with vbus := p.vbusRaw, vbusSince := none })
        |> actOnVbus c)

/-- BUS_RESET (R112). -/
def execBusReset (c : Channel) (s : State) : Outcome :=
  .next (match (s.chan c).port.state with
    | .attached => modPort c (fun p => { p with remoteWake := false }) s
    | .configured => dropBus c .attached s
    | .suspended => dropBus c .attached s
    | _ => s)

/-- CONFIGURATION (R112). -/
def execConfiguration (c : Channel) (s : State) : Outcome :=
  .next (if (s.chan c).port.state = .attached then enterConfigured c s else s)

/-- DECONFIGURATION (R112). -/
def execDeconfiguration (c : Channel) (s : State) : Outcome :=
  .next (if (s.chan c).port.state = .configured then dropBus c .attached s else s)

/-- SUSPEND (R112). -/
def execSuspend (c : Channel) (s : State) : Outcome :=
  .next (if (s.chan c).port.state = .configured then setPortState c .suspended s else s)

/-- RESUME (R112): a held completion is given. -/
def execResume (c : Channel) (s : State) : Outcome :=
  .next (if (s.chan c).port.state = .suspended then enterConfigured c s else s)

/-- REMOTE_WAKE_SETTING (R112). -/
def execRemoteWakeSetting (c : Channel) (on : Bool) (s : State) : Outcome :=
  .next (if (s.chan c).port.state = .configured then modPort c (fun p => { p with remoteWake := on }) s
    else s)

/-! ## Block requests (R114 to R121) -/

/-- QUERY_READY (R116). -/
def execQueryReady (c : Channel) (s : State) : Outcome :=
  .next (serverRequest c (.plain .queryReady) (fun _ => complete c .good) s)

/-- QUERY_CAPACITY (R116). -/
def execQueryCapacity (c : Channel) (s : State) : Outcome :=
  .next (serverRequest c (.plain .queryCapacity) (capacityRequest c) s)

/-- READ_BLOCKS (R117). -/
def execReadBlocks (c : Channel) (lba count : Nat) (s : State) : Outcome :=
  .next (serverRequest c ⟨.readBlocks, lba, count, 0, [], none⟩ (readRequest c lba count) s)

/-- WRITE_BLOCKS (R118). -/
def execWriteBlocks (c : Channel) (lba count : Nat) (data : List Byte) (s : State) : Outcome :=
  .next (serverRequest c ⟨.writeBlocks, lba, count, 0, data, none⟩ (writeRequest c lba count) s)

/-- REMOVAL_LOCK (R119). -/
def execRemovalLock (c : Channel) (on : Bool) (s : State) : Outcome :=
  .next (serverRequest c (.plain (.removalLock on)) (lockRequest c on) s)

/-- SERVER_EJECT (R120). -/
def execServerEject (c : Channel) (s : State) : Outcome :=
  .next (serverRequest c (.plain .eject) (ejectRequest c) s)

/-- SYNC (R121). -/
def execSync (c : Channel) (s : State) : Outcome :=
  .next (serverRequest c (.plain .sync) (syncRequest c) s)

/-! ## Deadlines of waits -/

/-- A wait's deadline reached: the request leaves its list and ends NOT READY RETRY (R98, R121, R134,
R136). -/
def expireWait (c : Channel) (deadline : Nat) (s : State) : State :=
  s |> State.advanceTo deadline |> endRequest c .notReadyRetry

/-- SYNC_DEADLINE (R121). -/
def execSyncDeadline (c : Channel) (s : State) : Outcome :=
  .next (match (s.request c).bind (·.wait) with
    | some (.spills _ t) => expireWait c t s
    | _ => s)

/-- WANT_WAIT_DEADLINE (R134): the want stays in the table. -/
def execWantWaitDeadline (c : Channel) (s : State) : Outcome :=
  .next (match (s.request c).bind (·.wait) with
    | some (.want _ _ t) => expireWait c t s
    | _ => s)

/-- WANT_ENTRY_DEADLINE (R134). -/
def execWantEntryDeadline (c : Channel) (s : State) : Outcome :=
  .next (match s.entryWaiters.find? (fun w => w.channel = c) with
    | some w => expireWait c w.deadline s
    | none => s)

/-- PAGE_WAIT_DEADLINE (R98). -/
def execPageWaitDeadline (c : Channel) (s : State) : Outcome :=
  .next (match s.pageWaiters.find? (fun w => w.channel = c) with
    | some w => expireWait c w.deadline s
    | none => s)

/-- The entry of a channel's request on the dirty waiter list of its drive (R136). -/
def State.dirtyWaiter (s : State) (c : Channel) : Option Waiter :=
  (s.boundDrive c).bind fun d => (s.drive d).dirtyWaiters.find? fun w => w.channel = c

/-- DIRTY_WAIT_DEADLINE (R136). -/
def execDirtyWaitDeadline (c : Channel) (s : State) : Outcome :=
  .next (match s.dirtyWaiter c with
    | some w => expireWait c w.deadline s
    | none => s)

end Sys2Proof.Machine
end

