-- ==== Sys2Proof/Machine/CacheCommands.lean ====
section
/-! DEFINITION. The meanings of the commands of chapter 8: wants, fills, spills and their deadlines. -/

namespace Sys2Proof.Machine

/-! ## Wants -/

/-- The block size code of a record: 0 for 512, 1 for 4096 (11.6). -/
def Descriptor.sizeCode (d : Descriptor) : Nat := if d.blockSize = 512 then 0 else 1

/-- The want record and spill header of 11.6. -/
def pageRecord (number : Byte) (d : DriveNo) (page valid : Nat) (x : Descriptor) : List Byte :=
  [number] ++ put1 d.val ++ put4 page ++ put1 valid ++ put1 x.sizeCode ++ put2 (valid * x.blockSize)

/-- The first `n` POSTED wants of the table, marked TAKEN in it (R130). -/
def takePosted : Nat → List Want → List Want × List Want
  | 0, ws => ([], ws)
  | _, [] => ([], [])
  | n + 1, w :: rest =>
    if w.taken then
      let x := takePosted (n + 1) rest
      (x.1, w :: x.2)
    else
      let x := takePosted n rest
      (w :: x.1, { w with taken := true } :: x.2)

/-- Take Wants (R130). -/
def hostTakeWants : Handler := fun s =>
  let x := takePosted 8 s.wants
  done { s with wants := x.2 }
    (put1 x.1.length ++ x.1.flatMap fun w => pageRecord w.number w.drive w.page w.valid (s.descriptor w.drive))

/-- TAKE_WANTS (R130). -/
def execTakeWants (tag : Byte) (s : State) : Outcome := .next (takeRequest (.takeWants tag) hostTakeWants s)

/-- Fill (R131). -/
def hostFill (want drive : Byte) (page : Quad) (data : List Byte) : Handler := onDrive drive fun d s =>
  match s.wantMatching want d page.toNat with
  | none => answers .stale [] s
  | some w =>
    if data.length ≠ w.valid * (s.descriptor d).blockSize then answers .badValue [] s
    else done (fillWant w data s)

/-- FILL (R131): the record's valid blocks and size code are not examined. -/
def execFill (tag want drive : Byte) (page : Quad) (valid size : Byte) (data : List Byte) (s : State) :
    Outcome :=
  .next (takeRequest (.fill tag want drive page valid size data) (hostFill want drive page data) s)

/-- The status a Fill Failed ends waiters with, by its reason (R132). -/
def failStatus (notAvailable : Bool) : Completion := if notAvailable then .notReadyRetry else .mediumError

/-- Fill Failed (R132): the reason is IMAGE_ERROR 0 or NOT_AVAILABLE 1. -/
def hostFillFailed (want drive : Byte) (page : Quad) (reason : Byte) : Handler :=
  onDrive drive fun d => onFlag reason fun r s =>
    match s.wantMatching want d page.toNat with
    | none => answers .stale [] s
    | some w => done (failWant w (failStatus r) s)

/-- FILL_FAILED (R132). -/
def execFillFailed (tag want drive : Byte) (page : Quad) (reason : Byte) (s : State) : Outcome :=
  .next (takeRequest (.fillFailed tag want drive page reason) (hostFillFailed want drive page reason) s)

/-- WANT_DEADLINE (R133), of the want that holds a number. -/
def execWantDeadline (want : Byte) (s : State) : Outcome :=
  .next (match s.wants.find? (fun w => w.number = want) with
    | none => s
    | some w => s |> State.advanceTo w.deadline |> failWant w .notReadyRetry)

/-! ## Spills -/

/-- The page at the head of the Spill Queue handed to the host, in the order of R139. -/
def handSpill (r : PageRef) (rest : List PageRef) (p : CachePage) (number : Byte) (s : State) : State :=
  let s' := putPage r.drive { p with state := .spilling } { s with spillQueue := rest }
  { s' with
    spills := s'.spills ++ [⟨number, r.drive, r.index, s.deadline (s.descriptor r.drive).spillTimeout⟩]
    spillCounter := number + 1 }

/-- Take Spill (R139). -/
def hostTakeSpill : Handler := fun s =>
  match s.spillQueue with
  | [] => answers .empty [] s
  | r :: rest =>
    if Config.spillEntries ≤ s.spills.length then answers .noSpace [] s
    else
      let p := (s.page r.drive r.index).getD ⟨r.index, .dirty, []⟩
      let x := s.descriptor r.drive
      let number := freeNumber (s.spills.map (·.number)) 9 s.spillCounter
      done (handSpill r rest p number s)
        (pageRecord number r.drive r.index (x.valid r.index) x ++
          slice 0 (x.valid r.index * x.blockSize) p.data)

/-- TAKE_SPILL (R139). -/
def execTakeSpill (tag : Byte) (s : State) : Outcome := .next (takeRequest (.takeSpill tag) hostTakeSpill s)

/-- A spill of the table by number, drive and page (R140). -/
def State.spillMatching (s : State) (n : Byte) (d : DriveNo) (i : Nat) : Option Spill :=
  s.spills.find? fun x => x.number = n && x.drive = d && x.page = i

/-- The page of a spill moved by the outcome (R140). -/
def moveSpilled (d : DriveNo) (i : Nat) (retry : Bool) (s : State) : State :=
  if retry then spillToHead d i s else spillStored d i s

/-- A page's cache state in a reply. -/
def State.putCache (s : State) (d : DriveNo) (i : Nat) : List Byte :=
  match s.page d i with
  | none => []
  | some p => put1 p.state.code

/-- The page of a spill is SPILLING, not written since it was handed out (R140, R142). -/
def State.cleanlySpilling (s : State) (d : DriveNo) (i : Nat) : Bool :=
  (s.page d i).map (·.state) = some .spilling

/-- Spill Done (R140, R142): the outcome is STORED 0 or RETRY 1. -/
def hostSpillDone (spill drive : Byte) (page : Quad) (outcome : Byte) : Handler :=
  onDrive drive fun d => onFlag outcome fun retry s =>
    match s.spillMatching spill d page.toNat with
    | none => answers .stale [] s
    | some x =>
      let moved := s |> removeSpill x.number |> moveSpilled d x.page retry
      done (afterSpill d (!retry && s.cleanlySpilling d x.page) moved) (moved.putCache d x.page)

/-- SPILL_DONE (R140). -/
def execSpillDone (tag spill drive : Byte) (page : Quad) (outcome : Byte) (s : State) : Outcome :=
  .next (takeRequest (.spillDone tag spill drive page outcome) (hostSpillDone spill drive page outcome) s)

/-- SPILL_DEADLINE (R141), of the spill that holds a number. -/
def execSpillDeadline (spill : Byte) (s : State) : Outcome :=
  .next (match s.spills.find? (fun x => x.number = spill) with
    | none => s
    | some x =>
      s |> State.advanceTo x.deadline
        |> removeSpill x.number
        |> spillToHead x.drive x.page
        |> afterSpill x.drive false)

end Sys2Proof.Machine
end

