-- ==== Sys2Proof/Machine/RecipeCommands.lean ====
section
/-! DEFINITION. The meanings of the commands of chapter 9: the Recipe and Key String Tables, runs and the
deadlines of their steps. -/

namespace Sys2Proof.Machine

/-! ## Step records (R144, 11.6) -/

/-- A parameter that names one of `n` identifiers or choices (R144: "refused"). -/
def index? (n : Nat) (q : Quad) : Option (Fin n) := if h : q.toNat < n then some ⟨q.toNat, h⟩ else none

/-- A step timeout, in units of 100 ms, clamped (R144). -/
def takenStepTime (q : Quad) : Nat := clamp 1 6000 q.toNat

/-- The repeat interval of SEND KEYS: 0 kept, otherwise clamped (R63, R144). -/
def takenInterval (q : Quad) : Nat := if q = 0 then 0 else clamp 50 10000 q.toNat

/-- The outcomes in the order R144 lists them. -/
def outcomeOf (i : Fin 4) : StepOutcome :=
  match i with
  | 0 => .none
  | 1 => .met
  | 2 => .timedOut
  | 3 => .failed

/-- A step record as a step: none where its kind is unknown or a parameter names an identifier or a choice
out of range; numeric parameters are clamped (R144). -/
def stepOf (r : StepRecord) : Option RecipeStep :=
  match r.kind.toNat with
  | 1 => some (.pressButton (clamp 20 20000 r.first.toNat))
  | 2 => some (.pulseReset (clamp 10 5000 r.first.toNat))
  | 3 => some .cutPower
  | 4 => some .supplyPower
  | 5 => (index? 2 r.first).map fun i => .waitPower (i = 0) (takenStepTime r.second)
  | 6 => (index? 4 r.first).map fun u => .waitMatch u (takenStepTime r.second)
  | 7 => (index? 4 r.first).map .armMatch
  | 8 => some (.waitActivity (clamp 1 65535 r.first.toNat) (takenStepTime r.second))
  | 9 => some (.waitQuiet (clamp 100 60000 r.first.toNat) (takenStepTime r.second))
  | 10 => some (.waitHeartbeat (takenStepTime r.first))
  | 11 => some (.delay (clamp 1 600000 r.first.toNat))
  | 12 => (index? 8 r.first).map fun k => .sendKeys k (takenInterval r.second)
  | 13 => some .stopKeys
  | 14 => some .relearnBaud
  | 15 => some (.sendBreak (clamp 10 2550 r.first.toNat))
  | 16 => (index? 4 r.first).map .insertMedia
  | 17 => (index? 4 r.first).bind fun d => (index? 2 r.second).map fun f => .ejectMedia d (f = 1)
  | 18 => (index? 4 r.first).bind fun o => (index? 16 r.second).map fun t => .branch (outcomeOf o) t.val
  | 19 => (index? 8 r.first).map .call
  | 20 => (index? 2 r.first).map fun p => .ret (p = 1)
  | 21 => some (.finish (clamp 0 255 r.first.toNat))
  | _ => none

/-- The parameters of a step as stored; those its kind does not use are 0 (R144). -/
def RecipeStep.parameters : RecipeStep → Nat × Nat
  | .pressButton d => (d, 0)
  | .pulseReset d => (d, 0)
  | .cutPower => (0, 0)
  | .supplyPower => (0, 0)
  | .waitPower on t => (if on then 0 else 1, t)
  | .waitMatch u t => (u.val, t)
  | .armMatch u => (u.val, 0)
  | .waitActivity n t => (n, t)
  | .waitQuiet q t => (q, t)
  | .waitHeartbeat t => (t, 0)
  | .delay d => (d, 0)
  | .sendKeys k i => (k.val, i)
  | .stopKeys => (0, 0)
  | .relearnBaud => (0, 0)
  | .sendBreak d => (d, 0)
  | .insertMedia d => (d.val, 0)
  | .ejectMedia d f => (d.val, if f then 1 else 0)
  | .branch o t => (o.code, t)
  | .call k => (k.val, 0)
  | .ret p => (if p then 1 else 0, 0)
  | .finish code => (code, 0)

/-- A step record of a reply (11.6). -/
def RecipeStep.bytes (x : RecipeStep) : List Byte :=
  put1 x.code ++ put4 x.parameters.1 ++ put4 x.parameters.2

/-- A step count and its steps in a reply (R144, R146). -/
def putSteps (l : List RecipeStep) : List Byte := put1 l.length ++ l.flatMap RecipeStep.bytes

/-! ## The tables -/

/-- A handler for a request that names one of the eight recipes or key strings (4.4). -/
def onEight (b : Byte) (h : Fin 8 → Handler) : Handler := fun s =>
  match ident? 8 b with
  | none => answers .badValue [] s
  | some k => h k s

/-- A run references a recipe: as its current one, or in a return entry (R144). -/
def Run.references (k : RecipeNo) (r : Run) : Bool := r.recipe = k || r.stack.any fun e => e.recipe = k

/-- Some channel's run references a recipe (R144). -/
def State.inUse (s : State) (k : RecipeNo) : Bool :=
  s.channels.entries.any fun c => match c.context.run with
    | none => false
    | some r => r.references k

/-- Write Recipe (R144): every step of the list is checked before the first 16 are taken. -/
def hostWriteRecipe (recipe : Byte) (records : List StepRecord) : Handler := onEight recipe fun k s =>
  match records.mapM stepOf with
  | none => answers .badValue [] s
  | some steps =>
    if s.inUse k then answers .inUse [] s
    else done { s with recipes := s.recipes.set k (steps.take 16) } (putSteps (steps.take 16))

/-- WRITE_RECIPE (R144). -/
def execWriteRecipe (tag recipe : Byte) (records : List StepRecord) (s : State) : Outcome :=
  .next (takeRequest (.writeRecipe tag recipe records) (hostWriteRecipe recipe records) s)

/-- Write Key String (R145). -/
def hostWriteKeyString (key : Byte) (bytes : List Byte) : Handler := onEight key fun k s =>
  done { s with keys := s.keys.set k (bytes.take 32) } (put1 (bytes.take 32).length)

/-- WRITE_KEY_STRING (R145). -/
def execWriteKeyString (tag key : Byte) (bytes : List Byte) (s : State) : Outcome :=
  .next (takeRequest (.writeKeyString tag key bytes) (hostWriteKeyString key bytes) s)

/-- Read Recipe (R146): the step count and the steps, with no recipe number before them (log 16). -/
def hostReadRecipe (recipe : Byte) : Handler := onEight recipe fun k s => done s (putSteps (s.recipe k))

/-- READ_RECIPE (R146). -/
def execReadRecipe (tag recipe : Byte) (s : State) : Outcome :=
  .next (takeRequest (.readRecipe tag recipe) (hostReadRecipe recipe) s)

/-- Read Key String (R146): the length stands before the string, also where it is not 0 (log 16). -/
def hostReadKeyString (key : Byte) : Handler := onEight key fun k s =>
  done s (put1 (s.keys.get k).length ++ s.keys.get k)

/-- READ_KEY_STRING (R146). -/
def execReadKeyString (tag key : Byte) (s : State) : Outcome :=
  .next (takeRequest (.readKeyString tag key) (hostReadKeyString key) s)

/-! ## Runs -/

/-- A result with its code, a byte the spec does not state but for ENDED (R147, R163; log 9). -/
def RunResult.bytes (free : Byte) (x : RunResult) : List Byte :=
  put1 x.code ++ [match x with | .ended code => BitVec.ofNat 8 code | _ => free]

/-- The kind of the step a run waits in, or none (R163). -/
def putWait (w : Option RunWait) : List Byte := putItem 1 (w.map fun w => put1 w.code)

/-- The reply to Run Recipe: state, current recipe and step, waiting step, last result (R148). Each field is
carried in both states (R180). In IDLE the values of the recipe and of the step are not stated (log 9) and no
step is waiting; in RUNNING the last result reads NONE (R163). -/
def State.putStarted (s : State) (c : Channel) : List Byte :=
  let k := (s.chan c).context
  (match k.run with
    | some r => put1 1 ++ put1 r.recipe.val ++ put1 r.step ++ putWait r.wait
    | none => put1 0 ++ [s.unstated 1, s.unstated 2] ++ putWait none) ++
  k.result.bytes (s.unstated 0)

/-- Run Recipe (R148). -/
def hostRunRecipe (ch recipe : Byte) : Handler := onChannel ch fun c => onEight recipe fun k s =>
  if s.running c then answers .runActive [] s
  else if s.isLocked c then answers .locked [] s
  else if (s.recipe k).isEmpty then answers .wrongState [] s
  else
    let s' := startRun c k .host s
    done s' (s'.putStarted c)

/-- RUN_RECIPE (R148). -/
def execRunRecipe (tag ch recipe : Byte) (s : State) : Outcome :=
  .next (takeRequest (.runRecipe tag ch recipe) (hostRunRecipe ch recipe) s)

/-- Stop Recipe (R161). -/
def hostStopRecipe (ch : Byte) : Handler := onChannel ch fun c s =>
  if s.running c then done (endRun c .stopped s) else answers .wrongState [] s

/-- STOP_RECIPE (R161). -/
def execStopRecipe (tag ch : Byte) (s : State) : Outcome :=
  .next (takeRequest (.stopRecipe tag ch) (hostStopRecipe ch) s)

/-- The step progress: bytes counted, quiet elapsed or delay remaining, as the step kind has it
(R163). -/
def State.stepProgress (s : State) : RunWait → Option Nat
  | .activity _ counted => some counted
  | .quiet _ since => some (s.elapsed since)
  | .delay endsAt => some (s.remaining endsAt)
  | _ => none

/-- A return entry in a reply (R163). -/
def ReturnEntry.bytes (e : ReturnEntry) : List Byte := put1 e.recipe.val ++ put1 e.step ++ put1 e.saved.code

/-- Run Status (R163). An IDLE context's instant-step count is given as 0 (log 16). -/
def hostRunStatus (ch : Byte) : Handler := onChannel ch fun c s =>
  let k := (s.chan c).context
  let r := k.run
  done s
    (put1 (if r.isSome then 1 else 0) ++ putItem 1 (r.map fun r => put1 r.source.code) ++
      putItem 2 (r.map fun r => put1 r.recipe.val ++ put1 r.step) ++
      putItem 1 (r.map fun r => put1 r.outcome.code) ++ putWait (r.bind (·.wait)) ++
      putItem 4 ((r.bind (·.deadline)).map fun t => put4 (s.remaining t)) ++
      putItem 4 (((r.bind (·.wait)).bind s.stepProgress).map put4) ++
      put1 ((r.map (·.instants)).getD 0) ++ put1 ((r.map (·.stack.length)).getD 0) ++
      putItem 4 (r.map fun r => r.startedAt.bytes) ++
      k.result.bytes (s.unstated 0) ++ k.resultAt.bytes ++
      ((r.map (·.stack)).getD []).flatMap ReturnEntry.bytes)

/-- RUN_STATUS (R163). -/
def execRunStatus (tag ch : Byte) (s : State) : Outcome :=
  .next (takeRequest (.runStatus tag ch) (hostRunStatus ch) s)

/-! ## Deadlines of steps -/

/-- STEP_TIMEOUT (R149): the waiting step ends TIMED_OUT. -/
def execStepTimeout (c : Channel) (s : State) : Outcome :=
  .next (match (s.run c).bind (·.deadline) with
    | none => s
    | some t => s |> State.advanceTo t |> finishWait c .timedOut)

/-- DELAY_END (R154). -/
def execDelayEnd (c : Channel) (s : State) : Outcome :=
  .next (match (s.run c).bind (·.wait) with
    | some (.delay t) => s |> State.advanceTo t |> finishWait c .met
    | _ => s)

/-- QUIET_INTERVAL_END (R153). -/
def execQuietIntervalEnd (c : Channel) (s : State) : Outcome :=
  .next (match (s.run c).bind (·.wait) with
    | some (.quiet q since) => s |> State.advanceTo (since + q * Config.msUnits) |> finishWait c .met
    | _ => s)

end Sys2Proof.Machine
end

