-- ==== Sys2Proof/Machine/TriggerCommands.lean ====
section
/-! DEFINITION. The meanings of the commands of chapter 10: trigger slots, the notice mask and Read
Changes. -/

namespace Sys2Proof.Machine

/-! ## Trigger slots -/

/-- A handler for a request that names a channel and a slot (4.4). -/
def onSlot (ch slot : Byte) (h : Channel → SlotNo → Handler) : Handler :=
  onChannel ch fun c s =>
    match ident? 4 slot with
    | none => answers .badValue [] s
    | some i => h c i s

/-- An event kind with its unit, which only MATCH has examined (R165, R166, R180). -/
def eventOf (event unit : Byte) : Option TriggerEvent :=
  if event = 0 then some .hang
  else if event = 1 then some .fast
  else if event = 2 then some .spontaneousOff
  else if event = 3 then (ident? 4 unit).map .matched
  else none

/-- A recipe or none: a byte 0 or 1, and the recipe's number, examined where it is given (R165, R180). DESIGN
CHOICE (log 37): behind a byte 0 the number's byte is not examined, and there is no recipe whatever it holds;
R180 says it is then 0 and not what happens where it is another. A presence byte above 1, to which R180 gives no
meaning, is refused BAD_VALUE (log 37). -/
def recipeOf (given recipe : Byte) : Option (Option RecipeNo) :=
  if given = 0 then some none
  else if given = 1 then (ident? 8 recipe).map some
  else none

/-- A slot as Set Trigger leaves it (R165). -/
def TriggerSlot.setTo (e : TriggerEvent) (r : Option RecipeNo) (holdoff limit : Nat) : TriggerSlot :=
  ⟨e, r, holdoff, limit, 0, none, none, if r.isSome then .armed else .off⟩

/-- An event kind and its unit in a reply, the unit a byte the spec does not state but for MATCH (R180;
log 9). -/
def TriggerEvent.bytes (free : Byte) (e : TriggerEvent) : List Byte :=
  put1 e.code ++ [match e with | .matched u => BitVec.ofNat 8 u.val | _ => free]

/-- A recipe or none in a reply. -/
def putRecipe (r : Option RecipeNo) : List Byte := putItem 1 (r.map fun r => put1 r.val)

/-- Set Trigger (R165). -/
def hostSetTrigger (ch slot event unit given recipe : Byte) (holdoff : Half) (limit : Byte) : Handler :=
  onSlot ch slot fun c i s =>
    match eventOf event unit, recipeOf given recipe with
    | some e, some r =>
      let t := TriggerSlot.setTo e r (clamp 10 3600 holdoff.toNat) (clamp 0 15 limit.toNat)
      done (modSlot c i (fun _ => t) s)
        (e.bytes (s.unstated 0) ++ putRecipe r ++ put2 t.holdoff ++ put1 t.limit ++ put1 t.state.code)
    | _, _ => answers .badValue [] s

/-- SET_TRIGGER (R165). -/
def execSetTrigger (tag ch slot event unit given recipe : Byte) (holdoff : Half) (limit : Byte)
    (s : State) : Outcome :=
  .next (takeRequest (.setTrigger tag ch slot event unit given recipe holdoff limit)
    (hostSetTrigger ch slot event unit given recipe holdoff limit) s)

/-- A slot rearmed: the holdoff remaining and the last fire kept (R169). -/
def TriggerSlot.rearmed (t : TriggerSlot) : TriggerSlot := { t with fires := 0, state := .armed }

/-- Rearm Trigger (R169). -/
def hostRearmTrigger (ch slot : Byte) : Handler := onSlot ch slot fun c i s =>
  if (s.slot c i).state = .off then answers .wrongState [] s
  else
    let s' := modSlot c i TriggerSlot.rearmed s
    done s' (put1 (s'.slot c i).state.code)

/-- REARM_TRIGGER (R169). -/
def execRearmTrigger (tag ch slot : Byte) (s : State) : Outcome :=
  .next (takeRequest (.rearmTrigger tag ch slot) (hostRearmTrigger ch slot) s)

/-- The holdoff remaining of a slot, in ms: above 0 until the countdown is over (R168; log 8). -/
def State.slotHoldoff (s : State) (t : TriggerSlot) : Nat :=
  match t.holdoffEnd with
  | none => 0
  | some due => if due < s.now then 0 else max 1 (s.remaining due)

/-- A slot's record in a reply, in the order of the table of 10.1 (R169). -/
def State.putSlotRecord (s : State) (c : Channel) (i : SlotNo) : List Byte :=
  let t := s.slot c i
  t.event.bytes (s.unstated i.val) ++ putRecipe t.recipe ++ put2 t.holdoff ++ put1 t.limit ++ put1 t.fires ++
    put4 (s.slotHoldoff t) ++ putItem 4 (t.lastFire.map Quad.bytes) ++ put1 t.state.code

/-- Trigger Status: the four slot records in slot order (R169). -/
def hostTriggerStatus (ch : Byte) : Handler := onChannel ch fun c s =>
  done s ((List.finRange 4).flatMap (s.putSlotRecord c))

/-- TRIGGER_STATUS (R169). -/
def execTriggerStatus (tag ch : Byte) (s : State) : Outcome :=
  .next (takeRequest (.triggerStatus tag ch) (hostTriggerStatus ch) s)

/-- TRIGGER_HOLDOFF_EXPIRY: the slot's holdoff remaining reaches 0 (R168). -/
def execTriggerHoldoffExpiry (c : Channel) (i : SlotNo) (s : State) : Outcome :=
  .next (match (s.slot c i).holdoffEnd with
    | none => s
    | some due => s |> State.advanceTo due |> modSlot c i (fun t => { t with holdoffEnd := none }))

/-! ## The notice mask and Read Changes -/

/-- The two-valued fields of a list of bytes; none where one is above 1 (R172, R180). -/
def flags? : List Byte → Option (List Bool)
  | [] => some []
  | b :: rest =>
    match flag? b, flags? rest with
    | some x, some xs => some (x :: xs)
    | _, _ => none

/-- A table of `n` values read from a list, `d` standing for what the list does not hold. -/
def tableOf {α : Type} (n : Nat) (d : α) (l : List α) : Table n α :=
  ⟨(List.range n).map fun i => l.getD i d, by simp⟩

/-- The mask that twenty-nine fields spell: seventeen enables, eight channel selects and four drive
selects (R172). -/
def maskOf (l : List Bool) : NoticeMask :=
  ⟨tableOf 17 false l, tableOf 8 false (l.drop 17), tableOf 4 false (l.drop 25)⟩

/-- The mask in a reply (R172). -/
def NoticeMask.bytes (m : NoticeMask) : List Byte :=
  (m.enables.entries ++ m.channels.entries ++ m.drives.entries).flatMap putFlag

/-- Set Notice Mask (R172). -/
def hostSetNoticeMask (fields : Table 29 Byte) : Handler := fun s =>
  match flags? fields.entries with
  | none => answers .badValue [] s
  | some l =>
    let s' := { s with mask := maskOf l }
    done s' (s'.mask.bytes ++ putFlag s'.attn)

/-- SET_NOTICE_MASK (R172). -/
def execSetNoticeMask (tag : Byte) (fields : Table 29 Byte) (s : State) : Outcome :=
  .next (takeRequest (.setNoticeMask tag fields) (hostSetNoticeMask fields) s)

/-- Read Changes: the flags and level conditions as they stand, every flag cleared, and LNK_ATTN as it is
after the clearing (R173). -/
def hostReadChanges : Handler := fun s =>
  let s' := clearFlags s
  done s'
    (s.channels.entries.flatMap (fun c => c.flags.entries.flatMap putFlag) ++
      s.drives.entries.flatMap (fun d => putFlag d.driveFlag ++ putFlag d.serverEjectFlag) ++
      putFlag s.restarted ++ putFlag s.wantsPosted ++ putFlag s.spillsWaiting ++ putFlag s'.attn)

/-- READ_CHANGES (R173). -/
def execReadChanges (tag : Byte) (s : State) : Outcome :=
  .next (takeRequest (.readChanges tag) hostReadChanges s)

end Sys2Proof.Machine
end

