-- ==== Sys2Proof/Machine/LinkCommands.lean ====
section
/-! DEFINITION. The meanings of the link transactions that carry no valid request of their own (chapter
11): a discarded frame, a reply read, and a transaction that is neither. -/

namespace Sys2Proof.Machine

/-- The owning rule of each host request; a command that is no host request has none. -/
def handlerOf : Instr → Handler
  | .identify _ => hostIdentify
  | .partReset _ => hostPartReset
  | .channelReset _ c => hostChannelReset c
  | .cut _ c => hostCut c
  | .supply _ c => hostSupply c
  | .pressButton _ c d => hostPressButton c d
  | .pulseReset _ c d => hostPulseReset c d
  | .setPowerSettings _ c q m => hostSetPowerSettings c q m
  | .powerStatus _ c => hostPowerStatus c
  | .relearnBaud _ c => hostRelearnBaud c
  | .setBaudMode _ c m r => hostSetBaudMode c m r
  | .setBaudSettings _ c w a b d e => hostSetBaudSettings c w a b d e
  | .baudStatus _ c => hostBaudStatus c
  | .setHeartbeatSettings _ c e w p q k => hostSetHeartbeatSettings c e w p q k
  | .heartbeatStatus _ c => hostHeartbeatStatus c
  | .setCaptureLimits _ c f l => hostSetCaptureLimits c f l
  | .consoleRead _ c p m k => hostConsoleRead c p m k
  | .consoleStatus _ c => hostConsoleStatus c
  | .sendConsole _ c bs => hostSendConsole c bs
  | .flushConsoleTx _ c => hostFlushConsoleTx c
  | .sendBreak _ c d => hostSendBreak c d
  | .setTransmitSettings _ c f l => hostSetTransmitSettings c f l
  | .transmitStatus _ c => hostTransmitStatus c
  | .setPattern _ c u f m bs => hostSetPattern c u f m bs
  | .armMatch _ c u => hostArmMatch c u
  | .disarmMatch _ c u => hostDisarmMatch c u
  | .readMatch _ c u => hostReadMatch c u
  | .poolStatus _ => hostPoolStatus
  | .loadDrive _ d r => hostLoadDrive d r
  | .unloadDrive _ d => hostUnloadDrive d
  | .insert _ d c => hostInsert d c
  | .eject _ d f => hostEject d f
  | .setPortPresence _ c p => hostSetPortPresence c p
  | .driveStatus _ d => hostDriveStatus d
  | .portStatus _ c => hostPortStatus c
  | .takeWants _ => hostTakeWants
  | .fill _ w d p _ _ data => hostFill w d p data
  | .fillFailed _ w d p r => hostFillFailed w d p r
  | .takeSpill _ => hostTakeSpill
  | .spillDone _ n d p o => hostSpillDone n d p o
  | .writeRecipe _ r steps => hostWriteRecipe r steps
  | .writeKeyString _ k bs => hostWriteKeyString k bs
  | .readRecipe _ r => hostReadRecipe r
  | .readKeyString _ k => hostReadKeyString k
  | .runRecipe _ c r => hostRunRecipe c r
  | .stopRecipe _ c => hostStopRecipe c
  | .runStatus _ c => hostRunStatus c
  | .setTrigger _ c s e u g r h l => hostSetTrigger c s e u g r h l
  | .rearmTrigger _ c s => hostRearmTrigger c s
  | .triggerStatus _ c => hostTriggerStatus c
  | .setNoticeMask _ m => hostSetNoticeMask m
  | .readChanges _ => hostReadChanges
  | _ => fun s => done s

/-- BAD_FRAME: a request write of any bytes after 0x5A. With READY clear, or where a check of R177 fails, the
frame is discarded and sets REJECT; bytes that do spell a request are taken as it (R177; log 19). -/
def execBadFrame (bytes : List Byte) (s : State) : Outcome :=
  .next (match readFrame bytes with
    | some i => takeRequest i (handlerOf i) s
    | none => discard (shiftOut (List.replicate bytes.length 0) s))

/-- The bytes of the first `n` a reply read shifts out after the status byte: the reply's, then 0x00
(R179). -/
def clockedOut (n : Nat) (frame : List Byte) : List Byte :=
  frame.take n ++ List.replicate (n - frame.length) 0

/-- A reply read of `n` bytes after its status byte: the oldest reply is removed if it was shifted out
whole (R179). -/
def readReply (n : Nat) (s : State) : State :=
  match s.link.replies with
  | [] => shiftOut (clockedOut n Reply.ofEmptyQueue.bytes) s
  | r :: rest =>
    let s' := shiftOut (clockedOut n r.bytes) s
    if r.bytes.length ≤ n then { s' with link := { s'.link with replies := rest } } else s'

/-- REPLY_READ (R175, R179). -/
def execReplyRead (clocked : Nat) (s : State) : Outcome := .next (readReply clocked s)

/-- LINK_OTHER_TRANSACTION (R175): cut short within its first byte it has no effect of any kind; otherwise
the status byte is shifted out, then zeros. A first byte of 0x5A or 0xA5 chooses a request write or a reply
read of no bytes that ends there (log 19). -/
def execLinkOtherTransaction (first : Option Byte) (clocked : Nat) (s : State) : Outcome :=
  .next (match first with
    | none => s
    | some b =>
      if b = 0x5A then discard (shiftOut (List.replicate clocked 0) s)
      else if b = 0xA5 then readReply clocked s
      else shiftOut (List.replicate clocked 0) s)

end Sys2Proof.Machine
end

