-- ==== Sys2Proof/Machine/Dispatch.lean ====
section
/-! DEFINITION. One arm for each command: the meaning of each. -/

namespace Sys2Proof.Machine

/-- A command's effect on everything but the queue. -/
def exec (i : Instr) (s : State) : Host.Outcome State Fault Refusal :=
  match i with
  | .powerOnReset pins => Sys2Proof.Machine.execPowerOnReset pins s
  | .partReset tag => Sys2Proof.Machine.execPartReset tag s
  | .channelReset tag channel => Sys2Proof.Machine.execChannelReset tag channel s
  | .identify tag => Sys2Proof.Machine.execIdentify tag s
  | .cut tag channel => Sys2Proof.Machine.execCut tag channel s
  | .supply tag channel => Sys2Proof.Machine.execSupply tag channel s
  | .pressButton tag channel duration => Sys2Proof.Machine.execPressButton tag channel duration s
  | .pulseReset tag channel duration => Sys2Proof.Machine.execPulseReset tag channel duration s
  | .setPowerSettings tag channel qualifyTime minimumOff => Sys2Proof.Machine.execSetPowerSettings tag channel qualifyTime minimumOff s
  | .powerStatus tag channel => Sys2Proof.Machine.execPowerStatus tag channel s
  | .relearnBaud tag channel => Sys2Proof.Machine.execRelearnBaud tag channel s
  | .setBaudMode tag channel mode rate => Sys2Proof.Machine.execSetBaudMode tag channel mode rate s
  | .setBaudSettings tag channel window tolerance agree threshold relearn => Sys2Proof.Machine.execSetBaudSettings tag channel window tolerance agree threshold relearn s
  | .baudStatus tag channel => Sys2Proof.Machine.execBaudStatus tag channel s
  | .setHeartbeatSettings tag channel enable window sp1 sp2 streak => Sys2Proof.Machine.execSetHeartbeatSettings tag channel enable window sp1 sp2 streak s
  | .heartbeatStatus tag channel => Sys2Proof.Machine.execHeartbeatStatus tag channel s
  | .setCaptureLimits tag channel floor ceiling => Sys2Proof.Machine.execSetCaptureLimits tag channel floor ceiling s
  | .consoleRead tag channel start maximum skip => Sys2Proof.Machine.execConsoleRead tag channel start maximum skip s
  | .consoleStatus tag channel => Sys2Proof.Machine.execConsoleStatus tag channel s
  | .sendConsole tag channel bytes => Sys2Proof.Machine.execSendConsole tag channel bytes s
  | .flushConsoleTx tag channel => Sys2Proof.Machine.execFlushConsoleTx tag channel s
  | .sendBreak tag channel duration => Sys2Proof.Machine.execSendBreak tag channel duration s
  | .setTransmitSettings tag channel flow stallLimit => Sys2Proof.Machine.execSetTransmitSettings tag channel flow stallLimit s
  | .transmitStatus tag channel => Sys2Proof.Machine.execTransmitStatus tag channel s
  | .setPattern tag channel unit fold mode pattern => Sys2Proof.Machine.execSetPattern tag channel unit fold mode pattern s
  | .armMatch tag channel unit => Sys2Proof.Machine.execArmMatch tag channel unit s
  | .disarmMatch tag channel unit => Sys2Proof.Machine.execDisarmMatch tag channel unit s
  | .readMatch tag channel unit => Sys2Proof.Machine.execReadMatch tag channel unit s
  | .poolStatus tag => Sys2Proof.Machine.execPoolStatus tag s
  | .loadDrive tag drive descriptor => Sys2Proof.Machine.execLoadDrive tag drive descriptor s
  | .unloadDrive tag drive => Sys2Proof.Machine.execUnloadDrive tag drive s
  | .insert tag drive channel => Sys2Proof.Machine.execInsert tag drive channel s
  | .eject tag drive force => Sys2Proof.Machine.execEject tag drive force s
  | .setPortPresence tag channel presence => Sys2Proof.Machine.execSetPortPresence tag channel presence s
  | .driveStatus tag drive => Sys2Proof.Machine.execDriveStatus tag drive s
  | .portStatus tag channel => Sys2Proof.Machine.execPortStatus tag channel s
  | .takeWants tag => Sys2Proof.Machine.execTakeWants tag s
  | .fill tag want drive page valid size data => Sys2Proof.Machine.execFill tag want drive page valid size data s
  | .fillFailed tag want drive page reason => Sys2Proof.Machine.execFillFailed tag want drive page reason s
  | .takeSpill tag => Sys2Proof.Machine.execTakeSpill tag s
  | .spillDone tag spill drive page outcome => Sys2Proof.Machine.execSpillDone tag spill drive page outcome s
  | .writeRecipe tag recipe steps => Sys2Proof.Machine.execWriteRecipe tag recipe steps s
  | .writeKeyString tag key bytes => Sys2Proof.Machine.execWriteKeyString tag key bytes s
  | .readRecipe tag recipe => Sys2Proof.Machine.execReadRecipe tag recipe s
  | .readKeyString tag key => Sys2Proof.Machine.execReadKeyString tag key s
  | .runRecipe tag channel recipe => Sys2Proof.Machine.execRunRecipe tag channel recipe s
  | .stopRecipe tag channel => Sys2Proof.Machine.execStopRecipe tag channel s
  | .runStatus tag channel => Sys2Proof.Machine.execRunStatus tag channel s
  | .setTrigger tag channel slot event unit given recipe holdoff limit => Sys2Proof.Machine.execSetTrigger tag channel slot event unit given recipe holdoff limit s
  | .rearmTrigger tag channel slot => Sys2Proof.Machine.execRearmTrigger tag channel slot s
  | .triggerStatus tag channel => Sys2Proof.Machine.execTriggerStatus tag channel s
  | .setNoticeMask tag fields => Sys2Proof.Machine.execSetNoticeMask tag fields s
  | .readChanges tag => Sys2Proof.Machine.execReadChanges tag s
  | .badFrame bytes => Sys2Proof.Machine.execBadFrame bytes s
  | .replyRead clocked => Sys2Proof.Machine.execReplyRead clocked s
  | .linkOtherTransaction first clocked => Sys2Proof.Machine.execLinkOtherTransaction first clocked s
  | .pgChange channel level => Sys2Proof.Machine.execPgChange channel level s
  | .pgQualified channel => Sys2Proof.Machine.execPgQualified channel s
  | .holdoffExpiry channel => Sys2Proof.Machine.execHoldoffExpiry channel s
  | .pulseEnd channel line => Sys2Proof.Machine.execPulseEnd channel line s
  | .attributionWindowExpiry channel line => Sys2Proof.Machine.execAttributionWindowExpiry channel line s
  | .lockChange channel level => Sys2Proof.Machine.execLockChange channel level s
  | .lockQualifiedLocked channel => Sys2Proof.Machine.execLockQualifiedLocked channel s
  | .lockQualifiedFree channel => Sys2Proof.Machine.execLockQualifiedFree channel s
  | .characterAccepted channel => Sys2Proof.Machine.execCharacterAccepted channel s
  | .framingError channel => Sys2Proof.Machine.execFramingError channel s
  | .baudWindowEnd channel => Sys2Proof.Machine.execBaudWindowEnd channel s
  | .hbChange channel level => Sys2Proof.Machine.execHbChange channel level s
  | .heartbeatEdge channel => Sys2Proof.Machine.execHeartbeatEdge channel s
  | .heartbeatWindowEnd channel => Sys2Proof.Machine.execHeartbeatWindowEnd channel s
  | .characterEnd channel => Sys2Proof.Machine.execCharacterEnd channel s
  | .breakEnd channel => Sys2Proof.Machine.execBreakEnd channel s
  | .keyCountdownExpiry channel => Sys2Proof.Machine.execKeyCountdownExpiry channel s
  | .rtrAsserted channel level => Sys2Proof.Machine.execRtrAsserted channel level s
  | .stallExpiry channel => Sys2Proof.Machine.execStallExpiry channel s
  | .pageWaitDeadline channel => Sys2Proof.Machine.execPageWaitDeadline channel s
  | .vbusChange channel level => Sys2Proof.Machine.execVbusChange channel level s
  | .vbusQualified channel => Sys2Proof.Machine.execVbusQualified channel s
  | .busReset channel => Sys2Proof.Machine.execBusReset channel s
  | .configuration channel => Sys2Proof.Machine.execConfiguration channel s
  | .deconfiguration channel => Sys2Proof.Machine.execDeconfiguration channel s
  | .suspend channel => Sys2Proof.Machine.execSuspend channel s
  | .resume channel => Sys2Proof.Machine.execResume channel s
  | .remoteWakeSetting channel on => Sys2Proof.Machine.execRemoteWakeSetting channel on s
  | .queryReady channel => Sys2Proof.Machine.execQueryReady channel s
  | .queryCapacity channel => Sys2Proof.Machine.execQueryCapacity channel s
  | .readBlocks channel lba count => Sys2Proof.Machine.execReadBlocks channel lba count s
  | .writeBlocks channel lba count data => Sys2Proof.Machine.execWriteBlocks channel lba count data s
  | .removalLock channel on => Sys2Proof.Machine.execRemovalLock channel on s
  | .serverEject channel => Sys2Proof.Machine.execServerEject channel s
  | .sync channel => Sys2Proof.Machine.execSync channel s
  | .syncDeadline channel => Sys2Proof.Machine.execSyncDeadline channel s
  | .wantDeadline want => Sys2Proof.Machine.execWantDeadline want s
  | .wantWaitDeadline channel => Sys2Proof.Machine.execWantWaitDeadline channel s
  | .wantEntryDeadline channel => Sys2Proof.Machine.execWantEntryDeadline channel s
  | .dirtyWaitDeadline channel => Sys2Proof.Machine.execDirtyWaitDeadline channel s
  | .spillDeadline spill => Sys2Proof.Machine.execSpillDeadline spill s
  | .stepTimeout channel => Sys2Proof.Machine.execStepTimeout channel s
  | .delayEnd channel => Sys2Proof.Machine.execDelayEnd channel s
  | .quietIntervalEnd channel => Sys2Proof.Machine.execQuietIntervalEnd channel s
  | .triggerHoldoffExpiry channel slot => Sys2Proof.Machine.execTriggerHoldoffExpiry channel slot s
  | .rxdRawChange channel level gap => Sys2Proof.Machine.execRxdRawChange channel level gap s
  | .survivingEdge channel => Sys2Proof.Machine.execSurvivingEdge channel s
  | .falseStart channel => Sys2Proof.Machine.execFalseStart channel s
  | .heartbeatQualifiedLow channel => Sys2Proof.Machine.execHeartbeatQualifiedLow channel s

end Sys2Proof.Machine
end

