-- ==== Sys2Proof/Machine/Step.lean ====
section
/-! DEFINITION. One step of the part: the command at the front of the queue, or a millisecond of waiting. -/

namespace Sys2Proof.Machine

/-- The queue replaced. -/
def State.withPending (s : State) (l : List Instr) : State := { s with pending := l }

/-- DESIGN CHOICE (log 7): on an empty queue the part waits a millisecond. Only the clock moves: every
timed event is a row of the command table. -/
def State.tick (s : State) : State := { s with now := s.now + Config.msUnits }

/-- One step: the command at the front of the queue is executed with the queue's rest; an empty queue
waits. -/
def step (s : State) : Host.Outcome State Fault Refusal :=
  match s.pending with
  | [] => .next s.tick
  | i :: rest => exec i (s.withPending rest)

/-- The state with the command that a word spells put at the front of its queue; unchanged where the word
spells none. -/
def State.withFetchWord (s : State) (nbits w : Nat) : State :=
  match decodeTableWord nbits w with
  | some i => s.withPending (i :: s.pending)
  | none => s

end Sys2Proof.Machine
end

