-- ==== Sys2Proof/Safety.lean ====
section
/-! DEFINITION. What a safe step is, the laws of the spec as predicates of a state (the service lock, the
bounds of the queues and tables, the form of the page maps), and the words the statements are written in:
the link after a request, and a state changed in one channel's or one drive's record. -/

namespace Sys2Proof.Machine

/-- An outcome is safe when it is a next state. -/
def SafeOutcome (o : Host.Outcome State Fault Refusal) : Prop := ∃ t, o = .next t

/-! ## Laws of the spec -/

/-- R19 and R20 for one channel: LOCKED, the button and reset lines are released, no supply is pending and
no run is RUNNING. -/
def ChannelState.LockLaw (c : ChannelState) : Prop :=
  c.power.locked = true →
    c.power.button = none ∧ c.power.reset = none ∧ c.power.pendingSupply = false ∧ c.context.run = none

/-- R19 and R20 for every channel. -/
def State.LockLaw (s : State) : Prop := ∀ c : Channel, (s.chan c).LockLaw

/-- The reply queue holds at most 8 replies (R178). -/
def State.RepliesFit (s : State) : Prop := s.link.replies.length ≤ 8

/-- Every marker list holds at most 64 markers (R51) and every injection queue at most 512 bytes (R61). -/
def State.ConsolesFit (s : State) : Prop :=
  ∀ c : Channel, (s.chan c).store.markers.length ≤ 64 ∧ (s.chan c).tx.queue.length ≤ 512

/-- Every page map is in its one form, so that it holds at most one page for each image page (R125). -/
def State.MapsOrdered (s : State) : Prop := ∀ d : DriveNo, mapWf (s.drive d).map = true

/-- The Want Table holds at most 32 wants and the spill-in-flight table at most 8 spills, and no two of either
have one number (R129, R138). -/
def State.TablesFit (s : State) : Prop :=
  s.wants.length ≤ 32 ∧ s.spills.length ≤ 8 ∧
    (s.wants.map (·.number)).Nodup ∧ (s.spills.map (·.number)).Nodup

/-- Each cache page stands exactly once in the list its cache state says, and no list names another: CLEAN in
the clean LRU list (R89), DIRTY in the Spill Queue (R137), SPILLING and SPILLING_DIRTY in the spill-in-flight
table (R138), FILLING in the Want Table (R129). A page that is not FILLING holds 4096 bytes (R88). -/
def State.CacheLaw (s : State) : Prop :=
  s.MapsOrdered ∧
    s.cleanList.Nodup ∧ s.spillQueue.Nodup ∧
    (s.spills.map fun x => (x.drive, x.page)).Nodup ∧ (s.wants.map fun w => (w.drive, w.page)).Nodup ∧
    (∀ d i, ⟨d, i⟩ ∈ s.cleanList ↔ (s.page d i).map (·.state) = some .clean) ∧
    (∀ d i, ⟨d, i⟩ ∈ s.spillQueue ↔ (s.page d i).map (·.state) = some .dirty) ∧
    (∀ d i, (∃ x ∈ s.spills, x.drive = d ∧ x.page = i) ↔
      (s.page d i).map (·.state) = some .spilling ∨ (s.page d i).map (·.state) = some .spillingDirty) ∧
    (∀ d i, (∃ w ∈ s.wants, w.drive = d ∧ w.page = i) ↔ (s.page d i).map (·.state) = some .filling) ∧
    ∀ d, ∀ p ∈ (s.drive d).map, p.state ≠ .filling → p.data.length = 4096

/-- The capture lists and the page maps fit the pool's 512 pages (R88), and the free and CLEAN pages cover the
unmet floor total (R90). -/
def State.PoolLaw (s : State) : Prop := s.consolePages + s.cachePages ≤ 512 ∧ s.unmet ≤ s.reclaimable

/-- R48, R45 and R51 for one store. The floor lies in 2 to 32, the ceiling from the floor to 64, and the pages
held do not exceed the ceiling. Oldest is a multiple of 4096, the k-th page's base is 4096 × k above it, every
page but the newest holds 4096 bytes and the newest 1 to 4096, and next is oldest plus the bytes held. At most
64 markers are held, at positions from oldest to next that do not decrease along the list. -/
def Store.Law (st : Store) : Prop :=
  (2 ≤ st.floor ∧ st.floor ≤ 32 ∧ st.floor ≤ st.ceiling ∧ st.ceiling ≤ 64 ∧ st.pages.length ≤ st.ceiling) ∧
    st.oldest % 4096 = 0 ∧
    st.next = st.oldest + (st.pages.map fun p => p.bytes.length).sum ∧ st.next < 2 ^ 48 ∧
    (∀ (k : Nat) (p : CapturePage), st.pages[k]? = some p →
      p.base = st.oldest + 4096 * k ∧ 1 ≤ p.bytes.length ∧ p.bytes.length ≤ 4096 ∧
        (k + 1 < st.pages.length → p.bytes.length = 4096)) ∧
    st.markers.length ≤ 64 ∧ (∀ m ∈ st.markers, st.oldest ≤ m.position ∧ m.position ≤ st.next) ∧
    (st.markers.map (·.position)).Pairwise (· ≤ ·)

/-- The store's law on every channel. -/
def State.StoresLaw (s : State) : Prop := ∀ c : Channel, (s.chan c).store.Law

/-- Every RUNNING context waits in a step, and its call stack holds at most 4 entries (R147, R149). -/
def State.RunsLaw (s : State) : Prop :=
  ∀ c : Channel, ∀ r ∈ (s.chan c).context.run, r.wait.isSome = true ∧ r.stack.length ≤ 4

/-- No transmitter is in the middle of an end: the model's field `settling` is clear between commands
(log 33). -/
def State.Settled (s : State) : Prop := ∀ c : Channel, (s.chan c).tx.settling = false

/-- A descriptor as R101 takes it: each field in its range, the timeouts in steps of 100 ms. -/
def Descriptor.Law (k : Descriptor) : Prop :=
  (k.blockSize = 512 ∨ k.blockSize = 4096) ∧ (1 ≤ k.capacity ∧ k.capacity < 2 ^ 32) ∧
    (1 ≤ k.dirtyLimit ∧ k.dirtyLimit ≤ 256) ∧ k.readahead ≤ 4 ∧
    (100 ≤ k.fillTimeout ∧ k.fillTimeout ≤ 25500 ∧ k.fillTimeout % 100 = 0) ∧
    100 ≤ k.spillTimeout ∧ k.spillTimeout ≤ 25500 ∧ k.spillTimeout % 100 = 0

/-- The laws of the drives. A descriptor is as R101 takes it, and EMPTY alone has none. A drive is bound exactly
in INSERTED, PRESENT and EJECT_WAIT, and no channel has two (R103). An EMPTY drive holds no pages and an IDLE
one only CLEAN pages, and neither has wants or spills (R109). A want's valid blocks are its page's (R129). The
DIRTY, SPILLING and SPILLING_DIRTY pages do not exceed the dirty limit (R136). -/
def State.DrivesLaw (s : State) : Prop :=
  ∀ d : DriveNo,
    let x := s.drive d
    (x.descriptor = none ↔ x.state = .empty) ∧
    (∀ k ∈ x.descriptor, k.Law ∧ x.dirtyCount ≤ k.dirtyLimit) ∧
    (x.bound.isSome = true ↔ x.state = .inserted ∨ x.state = .present ∨ x.state = .ejectWait) ∧
    (∀ (e : DriveNo) (c : Channel), x.bound = some c → (s.drive e).bound = some c → e = d) ∧
    (x.state = .empty → x.map = []) ∧
    (x.state = .idle → ∀ p ∈ x.map, p.state = .clean) ∧
    (x.state = .empty ∨ x.state = .idle → (∀ w ∈ s.wants, w.drive ≠ d) ∧ ∀ y ∈ s.spills, y.drive ≠ d) ∧
    ∀ w ∈ s.wants, w.drive = d → w.valid = (s.descriptor d).valid w.page

/-! ## The words of the statements -/

/-- The link after a request write whose body has `n` bytes, taken and answered: the status byte and zeros
shifted out, a REJECT shown by it cleared, and one reply of the request's kind and tag appended at the
newest end (R176, R178). -/
def State.replied (s : State) (kind tag : Byte) (n : Nat) (st : Status) (body : List Byte) : Link where
  replies := s.link.replies ++ [⟨kind, tag, st, body⟩]
  reject := false
  shiftedOut := s.statusByte :: List.replicate (6 + n) 0
  formed := s.link.formed + 1

/-- The link after a request write whose body has `n` bytes was ignored or found bad (R177). -/
def State.rejected (s : State) (n : Nat) : Link where
  replies := s.link.replies
  reject := true
  shiftedOut := s.statusByte :: List.replicate n 0
  formed := s.link.formed

/-- The state with one channel's record replaced, and no other part of it. -/
def State.putChan (s : State) (c : Channel) (x : ChannelState) : State :=
  { s with channels := s.channels.set c x }

/-- The state with one drive's record replaced, and no other part of it. -/
def State.putDriveRecord (s : State) (d : DriveNo) (x : Drive) : State :=
  { s with drives := s.drives.set d x }

/-- The state with the link replaced. -/
def State.withLink (s : State) (l : Link) : State := { s with link := l }

/-- The state after a host request was taken and answered: `t` is what its rule leaves of everything but the
link, and the reply carries the status and the body. -/
def State.answered (s : State) (i : Instr) (t : State) (st : Status) (body : List Byte) : State :=
  match i.request? with
  | some f => t.withLink (s.replied f.kind f.tag f.body.length st body)
  | none => t

/-- The state with the clock at a later moment, or where it was if that has passed. -/
def State.at (s : State) (t : Nat) : State := { s with now := max s.now t }

/-- A channel's record with a marker appended: at the value of next, at an uptime (R51). -/
def ChannelState.mark (x : ChannelState) (time : Quad) (k : MarkerKind) (argument : Nat) : ChannelState :=
  { x with store := { x.store with markers := pushMarker ⟨k, x.store.next, time, argument⟩ x.store.markers } }

/-- A channel's record with a change flag set (R171). -/
def ChannelState.flag (x : ChannelState) (k : ChannelFlag) : ChannelState :=
  { x with flags := x.flags.set k.index true }

/-- A channel's record after a relearn (R29). -/
def ChannelState.relearned (x : ChannelState) (now : Nat) (time : Quad) : ChannelState :=
  let afresh : Finder :=
    { x.finder with
      agreement := 0, candidate := none
      windowStart := now, windowLength := x.finder.settings.window, q := 0, m := none, f := 0 }
  match x.finder.state with
  | .hunting => { x with finder := afresh }
  | .locked =>
    (({ x with
        finder := { afresh with state := .hunting }
        units := x.units.map fun u => { u with progress := 0 } } : ChannelState).mark time .baudLost
      x.finder.lastLocked.val).flag .baud
  | .fixed => x

/-- A channel's record after entering ON, steps 1 to 5 of R3. -/
def ChannelState.enteredOn (x : ChannelState) (now : Nat) (time : Quad) : ChannelState :=
  let x := ({ x with power := { x.power with state := .on } } : ChannelState).mark time .powerOn 0
  let x := x.flag .power
  let x := if x.watch.settings.enable then
      { x with watch := { x.watch with
          state := .watching, count := 0, windowStart := now, windowLength := x.watch.settings.window
          lowStreak := 0, fastRaised := false } }
    else x
  let x := if x.finder.settings.relearn then x.relearned now time else x
  let resumed := { x.tx with slot := x.tx.slot.map (KeySlot.thaw now) }
  { x with
    tx := if x.tx.char.isNone && !x.tx.breaking && !x.tx.settling then resumed.arbitrate now x.finder.divisor else resumed }

/-- A channel's record after leaving ON, steps 1 to 5 of R3 and the steps of R72: a TX_FLUSH marker where bytes
were queued, a BREAK_SENT marker where there was a break. -/
def ChannelState.leftOn (x : ChannelState) (now : Nat) (time : Quad) (cause : OffCause) : ChannelState :=
  let y := ({ x with
      power := { x.power with lastCause := cause, lastCauseAt := time }
      watch := { x.watch with state := .idle, count := 0, lowStreak := 0, fastRaised := false }
      tx := { x.tx with
        char := none, queue := [], brk := none, hold := none
        slot := x.tx.slot.map fun k => k.abandon.freeze now } } : ChannelState).mark time .powerOff cause.code
  let y := y.flag .power
  let y := if x.tx.queue = [] then y else y.mark time .txFlush x.tx.queue.length
  match x.tx.brk with
  | none => y
  | some b => y.mark time .breakSent (b.heldMs now)

/-- A channel's record after a pulse on a line ended: the line released, its marker, its attribution window
started at 30,000 ms (R8). -/
def ChannelState.pulseEnded (x : ChannelState) (now : Nat) (time : Quad) (l : Line) (held : Nat) : ChannelState :=
  match l with
  | .button =>
    ({ x with power := { x.power with button := none, buttonWindowEnd := now + 30000 * 256000 } }
      : ChannelState).mark time .button held
  | .reset =>
    ({ x with power := { x.power with reset := none, resetWindowEnd := now + 30000 * 256000 } }
      : ChannelState).mark time .resetPulse held

/-- The refusal of a power request on a channel: LOCKED, then RUN_ACTIVE (R4, R5, R7, R13). -/
def State.powerRefusal (s : State) (c : Channel) : Option Status :=
  if (s.chan c).power.locked then some .locked
  else if (s.chan c).context.run.isSome then some .runActive
  else none

/-! ## What the statements compute -/

/-- What a Cut leaves of the state, by power state (R4); the qualified power-good level is LOW from then on, the
model's choice (log 39). -/
def cutOf (c : Channel) (s : State) : State :=
  let x := s.chan c
  let y := ({ x with power := { x.power with
      state := .cutHoldoff, holdoffEnd := s.now + x.power.minimumOff * 1000 * 256000
      pgQualified := false, pgSince := none } } : ChannelState).mark s.uptime .powerCut 0
  match x.power.state with
  | .off => s.putChan c (y.flag .power)
  | .on => s.putChan c (y.leftOn s.now s.uptime .cut)
  | .cutHoldoff => s.putChan c { x with power := { x.power with pendingSupply := false } }
  | .cut => s

/-- PEN asserted by a supply taking effect: OFF, with power-good qualification starting from LOW (R2, R5, R6). -/
def ChannelState.supplied (x : ChannelState) (now : Nat) (time : Quad) : ChannelState :=
  (({ x with power := { x.power with
      state := .off, pendingSupply := false, pgQualified := false
      pgSince := if x.power.pgRaw then some now else none } } : ChannelState).mark time .powerSupply 0).flag .power

/-- What a Supply leaves of the state, by power state (R5). -/
def supplyOf (c : Channel) (s : State) : State :=
  let x := s.chan c
  match x.power.state with
  | .cut => s.putChan c (x.supplied s.now s.uptime)
  | .cutHoldoff => s.putChan c { x with power := { x.power with pendingSupply := true } }
  | _ => s

/-- A channel's record after its finder was put into FIXED, or back into HUNTING, at a rate (R30). -/
def ChannelState.moded (x : ChannelState) (now : Nat) (v : FinderState) (fixedRate rate : Nat) : ChannelState :=
  ({ x with
    finder := { x.finder with
      state := v, fixedRate := fixedRate, divisor := (2 * 256000000 + rate) / (2 * rate)
      agreement := 0, candidate := none
      windowStart := now, windowLength := x.finder.settings.window, q := 0, m := none, f := 0 }
    units := x.units.map fun u => { u with progress := 0 } } : ChannelState).flag .baud

/-- A channel's record after an edge of the raw receive line, timed at `t`, survived the filter (R21, R41). A
character that it starts takes the divisor as it then stands (log 31). -/
def ChannelState.edgeSurvived (x : ChannelState) (t : Nat) : ChannelState :=
  let f := x.finder
  let n := match f.runStart with | none => 65535 | some r => min 65535 ((t - r) / 4)
  { x with
    finder := { f with
      rxdLevel := f.rxdRaw, edgeAt := none, runStart := some t
      q := if n < 65535 then min 65535 (f.q + 1) else f.q
      m := if n < 65535 then some (match f.m with | none => n | some m => min m n) else f.m }
    framing := x.framing.edge f.divisor t f.rxdRaw }

/-- What capturing a byte leaves of the state: a page from the pool, or a recycled one, where it needs one, and
then the byte at next with DATA raised (R44, R46, R47). -/
def capturedOf (c : Channel) (b : Byte) (s : State) : State :=
  let st := (s.chan c).store
  let needs : Bool := decide (st.pages = []) || decide (st.next % 4096 = 0)
  let granted : Bool := decide (st.pages.length < st.floor) ||
    decide (st.pages.length < st.ceiling) && decide (s.unmet + 1 ≤ s.reclaimable)
  let t : State := if needs && granted then takePage s else s
  let x := t.chan c
  let y : ChannelState :=
    if !needs then x
    else if granted then { x with store := { st with pages := st.pages ++ [⟨st.next, []⟩] } }
    else ({ x with store := { st with
        pages := st.pages.tail ++ [⟨st.next, []⟩]
        oldest := st.oldest + 4096
        markers := st.markers.filter fun m => st.oldest + 4096 ≤ m.position } } : ChannelState).flag .loss
  t.putChan c (({ y with store := { y.store with
    pages := appendByte b y.store.pages, next := st.next + 1 } } : ChannelState).flag .data)

/-- A channel's record after its arbiter had its turn: at a byte boundary it chooses, elsewhere it does not act
(R69), nor while the steps of an end are being carried out (R68; log 33). -/
def ChannelState.arbitrated (x : ChannelState) (now : Nat) : ChannelState :=
  if x.power.state = .on ∧ x.tx.char = none ∧ x.tx.breaking = false ∧ x.tx.settling = false then
    { x with tx := x.tx.arbitrate now x.finder.divisor }
  else x

/-- A channel's record after a stall, in the order of R71. -/
def ChannelState.stalled (x : ChannelState) (now : Nat) (time : Quad) : ChannelState :=
  let n := x.tx.queue.length
  let y : ChannelState := { x with tx := { x.tx with
    queue := [], hold := none, slot := x.tx.slot.map KeySlot.abandon } }
  (((if n = 0 then y else y.mark time .txFlush n).flag .txStall).arbitrated now)

/-- What an accepted Insert leaves of the state (R105): the drive bound, its marker and flag, and a suspended port
woken where remote wake is enabled, with a held completion given and stamped then (R112; log 35). -/
def insertedOf (d : DriveNo) (c : Channel) (s : State) : State :=
  let x := (s.chan c).mark s.uptime .mediaIn d.val
  let p := x.port
  let t := s.putDriveRecord d { s.drive d with
    state := .inserted, bound := some c, changeOwed := true, ejectRequested := false, driveFlag := true }
  if p.state = .suspended ∧ p.remoteWake = true then
    t.putChan c (({ x with port := { p with state := .configured }.giveHeld s.uptime } : ChannelState).flag .port)
  else t.putChan c x

/-- What an accepted Eject leaves of the state, by state, removal lock and force (R106). -/
def ejectedOf (d : DriveNo) (force : Bool) (why : OutReason) (s : State) : Option State :=
  let x := s.drive d
  let locked : Bool := match x.bound with | none => false | some c => (s.chan c).port.removalLock
  match x.state with
  | .inserted | .present => some (
      if !locked then enterDraining false d why s
      else if force then enterDraining false d .forced s
      else s.putDriveRecord d { x with ejectRequested := true, state := .ejectWait, driveFlag := true })
  | .ejectWait => some (
      if force then enterDraining false d .forced s
      else s.putDriveRecord d { x with ejectRequested := true })
  | _ => none

/-- What leaving the bus for a port state leaves of the state (R113): PORT raised, the request aborted without a
completion and out of its list, the removal lock and remote wake clear, an EJECT_WAIT drive flagged again. -/
def leftBus (c : Channel) (v : PortState) (s : State) : State :=
  let t := withdraw c s
  let x := t.chan c
  let u := t.putChan c (({ x with port := { x.port with
    state := v, request := none, removalLock := false, remoteWake := false } } : ChannelState).flag .port)
  match u.boundDrive c with
  | none => u
  | some d => u.putDriveRecord d { u.drive d with
      ejectRequested := (u.drive d).ejectRequested || decide ((u.drive d).state = .ejectWait) }

/-- The command is one of the seven server requests at a channel's port (R114). -/
def serverRequestOf (c : Channel) : Instr → Bool
  | .queryReady c' => c' = c
  | .queryCapacity c' => c' = c
  | .readBlocks c' _ _ => c' = c
  | .writeBlocks c' _ _ _ => c' = c
  | .removalLock c' _ => c' = c
  | .serverEject c' => c' = c
  | .sync c' => c' = c
  | _ => false

/-- A CONFIGURED port with no request in progress whose drive, PRESENT or in EJECT_WAIT, owes its server no answer:
step 4 of R115 is reached. -/
def State.carriesOut (s : State) (c : Channel) (d : DriveNo) : Prop :=
  (s.chan c).port.state = .configured ∧ (s.chan c).port.request = none ∧ s.boundDrive c = some d ∧
    (s.drive d).state ≠ .inserted ∧ (s.drive d).ejectRequested = false

/-- The state with the request, what was handed over, the last completion and the removal lock of one port
replaced. -/
def State.setRequest (s : State) (c : Channel) (r : Option Request) (h : Handed) (last : Option Completed)
    (lock : Bool) : State :=
  s.putChan c { s.chan c with port := { (s.chan c).port with
    request := r, handed := h, last := last, removalLock := lock } }

/-- What a want that ended without a fill leaves of the state, in the order of R132 and R133. -/
def failedOf (w : Want) (st : Completion) (s : State) : State :=
  let x := s.drive w.drive
  let t := { s.putDriveRecord w.drive { x with map := mapErase w.page x.map } with
    wants := s.wants.filter fun v => decide (v.number ≠ w.number) }
  serveEntries (servePages (testDrain w.drive (w.waiters.foldl (fun s c => endRequest c st s) t)))

/-- What the end of a spill leaves of its page and the lists, before the effects of R142 (R140, R141). -/
def movedOf (n : Byte) (d : DriveNo) (i : Nat) (retry : Bool) (s : State) : State :=
  let t := { s with spills := s.spills.filter fun x => decide (x.number ≠ n) }
  let x := s.drive d
  match s.page d i with
  | none => t
  | some p =>
    if retry then
      { t.putDriveRecord d { x with map := mapPut { p with state := .dirty } x.map } with
        spillQueue := ⟨d, i⟩ :: s.spillQueue }
    else if p.state = .spilling then
      { t.putDriveRecord d { x with map := mapPut { p with state := .clean } x.map } with
        cleanList := (s.cleanList.filter fun r => decide (r ≠ ⟨d, i⟩)) ++ [⟨d, i⟩] }
    else
      { t.putDriveRecord d { x with map := mapPut { p with state := .dirty } x.map } with
        spillQueue := s.spillQueue ++ [⟨d, i⟩] }

/-- What power-on reset and Part Reset leave alike of the state outside the channels (R100, R124, R143, R164,
R172, R174). -/
def clearedOf (t : State) : Prop :=
  (∀ d : DriveNo, t.drive d = ⟨.empty, none, none, false, false, [], [], false, false⟩) ∧
    t.cleanList = [] ∧ t.pageWaiters = [] ∧ t.wants = [] ∧ t.wantCounter = 0 ∧ t.entryWaiters = [] ∧
    t.spillQueue = [] ∧ t.spills = [] ∧ t.spillCounter = 0 ∧ (∀ k : Fin 8, t.recipe k = [] ∧ t.keys.get k = []) ∧
    t.restarted = true ∧ t.mask = ⟨Table.replicate 17 false, Table.replicate 8 true, Table.replicate 4 true⟩

/-! ### Pages, takes and waits -/

/-- What making room for one page leaves of the state: nothing changed while a page is FREE, and otherwise the
oldest CLEAN page out of the clean LRU list and of its drive's map (R91). -/
def roomOf (s : State) : State :=
  match s.freePages, s.cleanList with
  | 0, r :: rest =>
    let x := s.drive r.drive
    { s.putDriveRecord r.drive { x with map := mapErase r.index x.map } with cleanList := rest }
  | _, _ => s

/-- What creating a want for an absent page leaves of the state: a page is taken, it is FILLING, and the want is
the table's newest, POSTED, with the first free number from the counter on (R93, R129). -/
def wantedOf (d : DriveNo) (i : Nat) (waiters : List Channel) (s : State) : State :=
  let t := roomOf s
  let x := t.drive d
  let k := s.descriptor d
  let n := freeNumber (s.wants.map (·.number)) 33 s.wantCounter
  let due := s.epoch + ((s.now - s.epoch) / 256000 + k.fillTimeout) * 256000
  { t.putDriveRecord d { x with map := mapPut ⟨i, .filling, []⟩ x.map } with
    wants := s.wants ++ [⟨n, d, i, k.valid i, false, due, waiters⟩], wantCounter := n + 1 }

/-- The state with what a channel's request waits on replaced. -/
def State.waiting (s : State) (c : Channel) (w : Option Wait) : State :=
  let x := s.chan c
  s.putChan c { x with port := { x.port with request := x.port.request.map fun r => { r with wait := w } } }

/-- The moment a wait that starts now ends: its start plus the drive's fill timeout (R96, R134, R136). -/
def State.waitEnd (s : State) (d : DriveNo) : Nat :=
  s.epoch + ((s.now - s.epoch) / 256000 + (s.descriptor d).fillTimeout) * 256000

/-- The request waits for a page, a want entry or dirty room, at the newest end of that list (R96, R134, R136). -/
def pageWaitOf (c : Channel) (d : DriveNo) (i : Nat) (n : Need) (s : State) : State :=
  State.waiting { s with pageWaiters := s.pageWaiters ++ [⟨c, d, i, n, s.uptime, s.waitEnd d⟩] } c
    (some (.page s.uptime))

/-- The request waits for a free Want Table entry (R134). -/
def entryWaitOf (c : Channel) (d : DriveNo) (i : Nat) (s : State) : State :=
  State.waiting { s with entryWaiters := s.entryWaiters ++ [⟨c, d, i, s.uptime, s.waitEnd d⟩] } c
    (some (.wantEntry s.uptime))

/-- The request waits for room under its drive's dirty limit (R136). -/
def roomWaitOf (c : Channel) (d : DriveNo) (i : Nat) (s : State) : State :=
  let x := s.drive d
  (s.putDriveRecord d { x with dirtyWaiters := x.dirtyWaiters ++ [⟨c, d, i, s.uptime, s.waitEnd d⟩] }).waiting c
    (some (.dirtyRoom s.uptime))

/-- The request waits on the want of a FILLING page, the newest of its waiters (R134). -/
def wantWaitOf (c : Channel) (d : DriveNo) (i : Nat) (s : State) : State :=
  match s.wants.find? fun w => decide (w.drive = d ∧ w.page = i) with
  | none => s
  | some w => State.waiting { s with wants := s.wants.map fun v =>
      if v.drive = d ∧ v.page = i then { v with waiters := v.waiters ++ [c] } else v } c
    (some (.want w.number s.uptime (s.waitEnd d)))

/-- A demand for an absent page: a Want Table entry first, then the pool check; with both the want is created,
the request waits on it, and readahead follows (R127, R128). -/
def demandOf (c : Channel) (d : DriveNo) (i : Nat) (s : State) : State :=
  if 32 ≤ s.wants.length then entryWaitOf c d i s
  else if s.reclaimable < s.unmet + 1 then pageWaitOf c d i .filling s
  else readahead d (s.descriptor d).readahead (i + 1) ((wantedOf d i [c] s).waiting c
    (some (.want (freeNumber (s.wants.map (·.number)) 33 s.wantCounter) s.uptime (s.waitEnd d))))

/-- One image page of a READ BLOCKS or WRITE BLOCKS: what it leaves of the state, and whether the request goes on
to the next. A page served hands over its blocks as it stands. A page written takes the request's blocks in
their place; bytes the command did not carry are free (log 10). -/
def onePageOf (c : Channel) (d : DriveNo) (r : Request) (s : State) : State × Bool :=
  let x := s.chan c
  let v := s.drive d
  let k := s.descriptor d
  let size := k.blockSize
  let i := (r.lba + r.done) / k.blocksPerPage
  let off := (r.lba + r.done) % k.blocksPerPage
  let n := min (k.blocksPerPage - off) (r.count - r.done)
  let moved : Option Request := some { r with done := r.done + n }
  let sent := (List.range (n * size)).map fun j =>
    r.data.getD (r.done * size + j) (Config.unsentByte (r.done * size + j))
  let spliced (p : CachePage) : List Byte := p.data.take (off * size) ++ sent ++ p.data.drop ((off + n) * size)
  let writes (t : State) (p : CachePage) : State :=
    let y := t.drive d
    (t.putDriveRecord d { y with map := mapPut p y.map }).putChan c { x with port := { x.port with request := moved } }
  let full : Bool := decide (k.dirtyLimit ≤ v.dirtyCount)
  let fails : Bool := decide (s.reclaimable < s.unmet + 1)
  match r.kind, s.page d i with
  | .readBlocks, none => (demandOf c d i s, false)
  | .readBlocks, some p =>
    let t := s.putChan c { x with port := { x.port with
      handed := { x.port.handed with blocks := x.port.handed.blocks ++ (p.data.drop (off * size)).take (n * size) }
      request := moved } }
    match p.state with
    | .filling => (wantWaitOf c d i s, false)
    | .clean => ({ t with cleanList := (s.cleanList.filter fun q => decide (q ≠ ⟨d, i⟩)) ++ [⟨d, i⟩] }, true)
    | _ => (t, true)
  | .writeBlocks, some p =>
    match p.state with
    | .filling => (wantWaitOf c d i s, false)
    | .dirty => (writes s { p with data := spliced p }, true)
    | .clean =>
      if full then (roomWaitOf c d i s, false)
      else if fails then (pageWaitOf c d i .convert s, false)
      else ({ writes s { p with state := .dirty, data := spliced p } with
        cleanList := s.cleanList.filter fun q => decide (q ≠ ⟨d, i⟩)
        spillQueue := s.spillQueue ++ [⟨d, i⟩] }, true)
    | _ => (writes s { p with state := .spillingDirty, data := spliced p }, true)
  | .writeBlocks, none =>
    if off = 0 ∧ n = k.valid i then
      if full then (roomWaitOf c d i s, false)
      else if fails then (pageWaitOf c d i .dirty s, false)
      else ({ writes (roomOf s) ⟨i, .dirty, sent ++ List.replicate (4096 - sent.length) 0⟩ with
        spillQueue := s.spillQueue ++ [⟨d, i⟩] }, true)
    else (demandOf c d i s, false)
  | _, _ => (s, false)

/-! ### Records of the status replies -/

/-- The finder record, as the table of R32 lists it; `free` stands for the index of a verdict that names no
candidate (log 9). -/
def Finder.record (now : Nat) (free : Byte) (f : Finder) : List Byte :=
  let verdict : List Byte := match f.last.verdict with
    | .sparse => [0, free]
    | .outOfTolerance => [1, free]
    | .candidate r => [2, BitVec.ofNat 8 r.val]
    | .none => [3, free]
  put1 (if f.state = .fixed then 1 else 0) ++ put1 f.state.code ++
    put4 (if f.state = .fixed then f.fixedRate else f.lastLocked.val) ++ put4 f.divisor ++ put1 f.lastLocked.val ++
    putItem 1 (f.candidate.map fun r => put1 r.val) ++ put1 f.agreement ++
    put2 (min ((now - f.windowStart) / 256000) 65535) ++
    put2 f.last.q ++ putItem 2 (f.last.m.map put2) ++ put1 f.last.f ++ verdict ++ putItem 4 (f.last.error.map put4) ++
    put2 f.settings.window ++ put1 f.settings.tolerance ++ put1 f.settings.agree ++ put1 f.settings.threshold ++
    putFlag f.settings.relearn

/-- The watch record, as the table of R40 lists it: the gate open 0 or closed 1, the level high 0 or low 1
(log 16), no count and no window in IDLE. -/
def Watch.record (now : Nat) (powered : Bool) (w : Watch) : List Byte :=
  put1 w.state.code ++ put1 (if w.settings.enable = true ∧ powered = true then 0 else 1) ++
    put1 (if w.qualified = true then 0 else 1) ++
    put2 (if w.state = .idle then 0 else w.count) ++
    put2 (if w.state = .idle then 0 else min ((now - w.windowStart) / 256000) 65535) ++
    put2 w.held ++ w.heldAt.bytes ++ put1 w.lowStreak ++ putFlag w.fastRaised ++
    putFlag w.settings.enable ++ put2 w.settings.window ++ put2 w.settings.sp1 ++ put2 w.settings.sp2 ++
    put1 w.settings.streak

/-- The store record with the finder's summary, as the table of R56 lists it. -/
def ChannelState.storeRecord (x : ChannelState) : List Byte :=
  put6 x.store.oldest ++ put6 x.store.next ++ put1 x.store.pages.length ++ put1 x.store.floor ++
    put1 x.store.ceiling ++ put1 x.store.markers.length ++ put1 (if x.finder.state = .fixed then 1 else 0) ++
    put1 x.finder.state.code ++
    put4 (if x.finder.state = .fixed then x.finder.fixedRate else x.finder.lastLocked.val)

/-- The transmitter record, as the table of R74 lists it: GATED 0, IDLE 1, SENDING 2, BREAKING 3, HELD 4; an item
that is absent or none is a byte 0 with its own bytes 0 (R180). -/
def ChannelState.txRecord (s : State) (x : ChannelState) : List Byte :=
  let t := x.tx
  let breaking : Bool := match t.brk with | some b => b.since.isSome | none => false
  put1 (if x.power.state ≠ .on then 0 else if breaking then 3 else if t.char.isSome then 2
      else if t.hold.isSome then 4 else 1) ++
    put2 t.queue.length ++ putFlag t.slot.isSome ++
    putItem 2 (t.slot.map fun k => put1 k.number.val ++ put1 k.string.length) ++
    putItem 2 (t.slot.map fun k => put2 k.interval) ++
    putItem 2 (t.slot.map fun k => putFlag k.due ++ putFlag k.spent) ++
    putItem 2 (t.slot.bind fun k => match k.countdown with
      | .none => none
      | .running due => some (put2 (s.remaining due))
      | .frozen left => some (put2 ((left + 255999) / 256000))) ++
    putItem 1 (t.slot.bind fun k => k.progress.map put1) ++
    putItem 6 (t.brk.map fun b => putFlag b.since.isSome ++ put2 b.duration ++
      put2 (match b.since with | none => 0 | some since => min b.duration ((s.now - since) / 256000)) ++
      put1 (if b.origin = .run then 1 else 0)) ++
    putFlag t.rtr ++
    put4 (match t.hold with | none => 0 | some since => min ((s.now - since) / 256000) 4294967295) ++
    putFlag t.flow ++ put1 t.stallLimit

/-- The unit's record, as the table of R86 lists it, its pattern last (R180). -/
def MatchUnit.record (u : MatchUnit) : List Byte :=
  put1 u.state.code ++ putFlag u.counting ++ putFlag u.fold ++ put1 u.pattern.length ++ put1 u.hits ++
    putFlag u.pending ++ put1 u.progress ++ u.pattern

/-- Pages of all drives in one of the cache states listed. -/
def State.pagesIn (s : State) (states : List CacheState) : Nat :=
  ((List.finRange 4).map fun d => (s.drive d).map.countP fun p => decide (p.state ∈ states)).sum

/-- The pool's counts, as 11.6 lays them out (R99): the free pages are the rest of the 512. -/
def State.poolRecord (s : State) : List Byte :=
  let console := ((List.finRange 8).map fun c => (s.chan c).store.pages.length).sum
  let cache := ((List.finRange 4).map fun d => (s.drive d).map.length).sum
  let unmet := ((List.finRange 8).map fun c => (s.chan c).store.floor - (s.chan c).store.pages.length).sum
  let free := 512 - (console + cache)
  put2 free ++ put2 console ++ put2 s.cleanList.length ++ put1 (s.pagesIn [.filling]) ++ put2 (s.pagesIn [.dirty]) ++
    put2 (s.pagesIn [.spilling, .spillingDirty]) ++ put2 unmet ++
    put2 ((List.finRange 8).map fun c => (s.chan c).store.floor).sum ++
    put2 (free + s.cleanList.length - unmet) ++ put1 s.pageWaiters.length

/-- The drive's record, as the table of R122 lists it; the widths of the page counts are log 16's. -/
def State.driveRecord (s : State) (d : DriveNo) : List Byte :=
  let x := s.drive d
  let count (states : List CacheState) : Nat := x.map.countP fun p => decide (p.state ∈ states)
  put1 x.state.code ++ putItem 1 (x.bound.map fun c => put1 c.val) ++ putFlag x.changeOwed ++
    putFlag x.ejectRequested ++
    putItem 14 (x.descriptor.map fun k => put2 k.blockSize ++ put4 k.capacity ++ putFlag k.writeProtect ++
      put2 k.dirtyLimit ++ put1 k.readahead ++ put2 k.fillTimeout ++ put2 k.spillTimeout) ++
    putItem 5 (x.descriptor.map fun k => put4 k.imagePages ++ put1 k.lastValid) ++
    put2 (count [.clean]) ++ put1 (count [.filling]) ++ put2 (count [.dirty]) ++
    put2 (count [.spilling, .spillingDirty]) ++
    put1 (s.wants.countP fun w => decide (w.drive = d ∧ w.taken = false)) ++
    put1 (s.wants.countP fun w => decide (w.drive = d ∧ w.taken = true)) ++
    put1 (s.spills.countP fun y => decide (y.drive = d))

/-- The port's record, as the table of R123 lists it: VBUS present 0 or absent 1 (log 16); the lba and count of a
request that carries none are free bytes (log 9). -/
def State.portRecord (s : State) (c : Channel) : List Byte :=
  let p := (s.chan c).port
  put1 p.state.code ++ putFlag p.presence ++ put1 (if p.vbus = true then 0 else 1) ++ putFlag p.removalLock ++
    putFlag p.remoteWake ++
    putItem 8 (p.request.map fun r => put1 r.kind.code ++
      (if r.kind = .readBlocks ∨ r.kind = .writeBlocks then put4 r.lba ++ put1 r.count
        else [s.unstated 0, s.unstated 1, s.unstated 2, s.unstated 3, s.unstated 4]) ++
      put1 r.done ++ put1 (Wait.code r.wait)) ++
    putItem 5 (p.last.map fun k => put1 k.status.code ++ k.time.bytes)

/-- The run context, as the table of R163 lists it, the return entries last (log 16); the code of a result that
is not ENDED is a free byte (log 9). -/
def State.runRecord (s : State) (c : Channel) : List Byte :=
  let k := (s.chan c).context
  let r := k.run
  let wait := r.bind (·.wait)
  put1 (if r.isSome then 1 else 0) ++ putItem 1 (r.map fun r => put1 r.source.code) ++
    putItem 2 (r.map fun r => put1 r.recipe.val ++ put1 r.step) ++ putItem 1 (r.map fun r => put1 r.outcome.code) ++
    putItem 1 (wait.map fun w => put1 w.code) ++
    putItem 4 ((r.bind (·.deadline)).map fun due => put4 (s.remaining due)) ++
    putItem 4 (wait.bind fun w => match w with
      | .activity _ counted => some (put4 counted)
      | .quiet _ since => some (put4 ((s.now - since) / 256000))
      | .delay due => some (put4 (s.remaining due))
      | _ => none) ++
    put1 (match r with | some r => r.instants | none => 0) ++
    put1 (match r with | some r => r.stack.length | none => 0) ++
    putItem 4 (r.map fun r => r.startedAt.bytes) ++
    put1 k.result.code ++ [match k.result with | .ended code => BitVec.ofNat 8 code | _ => s.unstated 0] ++
    k.resultAt.bytes ++
    (match r with
      | some r => r.stack.flatMap fun e => put1 e.recipe.val ++ put1 e.step ++ put1 e.saved.code
      | none => [])

/-- A slot's record, as the table of 10.1 lists it (R169): the unit of a kind that watches no MATCH is a free byte
(log 9), and the hold-off reads above 0 until it is over (R168, log 8). -/
def State.slotRecord (s : State) (c : Channel) (n : SlotNo) : List Byte :=
  let v := (s.chan c).slots.get n
  put1 v.event.code ++ [match v.event with | .matched u => BitVec.ofNat 8 u.val | _ => s.unstated n.val] ++
    putItem 1 (v.recipe.map fun r => put1 r.val) ++ put2 v.holdoff ++ put1 v.limit ++ put1 v.fires ++
    put4 (match v.holdoffEnd with
      | none => 0
      | some due => if due < s.now then 0 else max 1 (s.remaining due)) ++
    putItem 4 (v.lastFire.map Quad.bytes) ++ put1 v.state.code

/-! ### Resets -/

/-- A channel after a power-on reset with its pins sampled, as the tables of R18, R33, 2.3.4, R58, R75, R87, R124,
R164 and R170 give it, and its filtered receive level and framing state as sampled (R21, R59). Values of fields
that have no meaning after the reset are log 15's. -/
def poweredOn (now : Nat) (v : Pins) : ChannelState where
  power := {
    state := .off, holdoffEnd := now, pendingSupply := false
    pgRaw := v.pg, pgQualified := false, pgSince := if v.pg then some now else none
    button := none, reset := none, buttonWindowEnd := now, resetWindowEnd := now
    lockRaw := v.lock, locked := v.lock, lockSince := none
    lastCause := .none, lastCauseAt := 0, qualifyTime := 20, minimumOff := 5 }
  finder := {
    state := .hunting, fixedRate := 0, lastLocked := 7, divisor := 2222, candidate := none, agreement := 0
    windowStart := now, windowLength := 100, q := 0, m := none, f := 0
    last := ⟨0, none, 0, .none, none⟩, settings := ⟨100, 5, 3, 8, true⟩
    rxdRaw := v.rxd, rxdLevel := v.rxd, edgeAt := none, runStart := none }
  watch := {
    raw := v.hb, qualified := v.hb, since := none, state := .idle, count := 0, windowStart := now
    windowLength := 1000, held := 0, heldAt := 0, lowStreak := 0, fastRaised := false
    settings := ⟨false, 1000, 65535, 1, 3⟩ }
  framing := if v.rxd then .waitStart else .waitHigh
  store := ⟨[], 0, 0, [], 8, 32⟩
  tx := {
    char := none, queue := [], slot := none, brk := none, hold := none, rtr := v.rtr, flow := false
    stallLimit := 10, settling := false }
  units := Table.replicate 4 ⟨[], false, false, .unset, 0, false, 0⟩
  port := {
    presence := true, vbusRaw := v.vbus, vbus := v.vbus, vbusSince := none
    state := if v.vbus then .attached else .noVbus
    removalLock := false, remoteWake := false, request := none, handed := ⟨[], none⟩, last := none }
  context := ⟨none, .none, 0⟩
  slots := Table.replicate 4 ⟨.hang, none, 300, 3, 0, none, none, .off⟩
  flags := Table.replicate 12 false

/-- A channel after a Part Reset, by the same tables: everything not named is kept, the request in progress ends
NO MEDIUM at uptime 0 (log 23), or is held while SUSPENDED, and a completion already held stands (R112, R124). -/
def partResetOf (now : Nat) (x : ChannelState) : ChannelState :=
  let window (pulse : Option Pulse) (due : Nat) : Nat := if pulse.isSome then now + 30000 * 256000 else due
  let p := x.port
  let ended : Port := match p.request with
    | none => p
    | some r => match r.wait with
      | some (.held _) => p
      | _ =>
        if p.state = .suspended then { p with request := some { r with wait := some (.held .noMedium) } }
        else { p with request := none, last := some ⟨.noMedium, r.done, 0⟩ }
  { power := { x.power with
      button := none, reset := none
      buttonWindowEnd := window x.power.button x.power.buttonWindowEnd
      resetWindowEnd := window x.power.reset x.power.resetWindowEnd
      lastCause := .none, lastCauseAt := 0, qualifyTime := 20, minimumOff := 5 }
    finder := { x.finder with
      state := .hunting, fixedRate := 0, lastLocked := 7, divisor := 2222, candidate := none, agreement := 0
      windowStart := now, windowLength := 100, q := 0, m := none, f := 0
      last := ⟨0, none, 0, .none, none⟩, settings := ⟨100, 5, 3, 8, true⟩ }
    watch := { x.watch with
      state := .idle, count := 0, held := 0, heldAt := 0, lowStreak := 0, fastRaised := false
      settings := ⟨false, 1000, 65535, 1, 3⟩ }
    framing := if x.finder.rxdLevel then .waitStart else .waitHigh
    store := ⟨[], 0, 0, [], 8, 32⟩
    tx := { x.tx with
      char := none, queue := [], slot := none, brk := none, hold := none, flow := false, stallLimit := 10
      settling := false }
    units := Table.replicate 4 ⟨[], false, false, .unset, 0, false, 0⟩
    port := { ended with
      presence := true, removalLock := false
      state := if p.state = .off then (if p.vbus then .attached else .noVbus) else p.state }
    context := ⟨none, if x.context.run.isSome then .reset else .none, 0⟩
    slots := Table.replicate 4 ⟨.hang, none, 300, 3, 0, none, none, .off⟩
    flags := Table.replicate 12 false }

end Sys2Proof.Machine
end

