-- ==== Sys2Proof/Certificates/Slice0/Obligations.lean ====
section
/-! DEFINITION. The statements for the provers. `State.answered`, `State.putChan`, `State.at` and the other words
they are written in stand in `Sys2Proof/Safety.lean`. A request's statement is over every state whose status
byte shows READY; the statement `EachRequestIsAnsweredOnceOrIgnored` says what happens without it. -/

open Sys2Proof Sys2Proof.Machine

/-- For every state s whose queue is the command i followed by rest, step s is exec i on s with the queue
replaced by rest: nothing else happens in a step. -/
def Obligations.StepRunsTheFrontCommand : Prop :=
  ∀ (s : State) (i : Instr) (rest : List Instr), s.pending = i :: rest →
    step s = exec i (s.withPending rest)

/-- The model's choice (log 7), no rule of the spec: with no command waiting, step answers a next state in which
the clock is 256,000 quarter ticks later and nothing else has changed. -/
def Obligations.AnEmptyQueueWaits : Prop :=
  ∀ s : State, s.pending = [] → step s = .next { s with now := s.now + 256000 }

/-- For every state with READY, CUT answers the next state given whole. From OFF: PEN released (CUT_HOLDOFF),
power-good timing abandoned and the qualified level LOW from then on (the model's choice, log 39), the hold-
off at the minimum off time in force, a POWER_CUT marker, the POWER flag. From ON: the same, then the steps
of leaving ON with cause CUT. In CUT_HOLDOFF: pending-supply cleared and nothing else. In CUT: no effect.
The reply's state is CUT_HOLDOFF (0) or CUT (1). The checks come in R4's order and a refused Cut changes
nothing but the link. The CUT POWER step has the same effect on the same states. -/
def Obligations.CutActsByPowerState : Prop :=
  (∀ (s : State) (tag ch : Byte), s.ready = true →
    let i := Instr.cut tag ch
    exec i s = .next (match ident? 8 ch with
      | none => s.answered i s .badValue []
      | some c =>
        match s.powerRefusal c with
        | some st => s.answered i s st []
        | none => s.answered i (cutOf c s) .ok [if (s.chan c).power.state = .cut then 1 else 0])) ∧
  ∀ (s : State) (c : Channel) (r : Run), act c r s .cutPower = (cutOf c s, .done .met)

/-- For every state with READY, SUPPLY answers the next state given whole. In CUT: PEN asserted (OFF), pending-
supply clear, qualification started from LOW against the raw level, a POWER_SUPPLY marker and the POWER
flag. In CUT_HOLDOFF: pending-supply set, DEFERRED with the hold-off remaining in ms, rounded up (the
model's choice, log 8). In OFF or ON: no effect, OK with the state as found. Every reply carries the state
and two bytes of hold-off (the model's reading of R180, log 16), 0 where it is OK, as R16 gives it outside
CUT_HOLDOFF. The SUPPLY POWER step has the same effect. -/
def Obligations.SupplyActsByPowerState : Prop :=
  (∀ (s : State) (tag ch : Byte), s.ready = true →
    let i := Instr.supply tag ch
    exec i s = .next (match ident? 8 ch with
      | none => s.answered i s .badValue []
      | some c =>
        match s.powerRefusal c with
        | some st => s.answered i s st []
        | none =>
          match (s.chan c).power.state with
          | .cutHoldoff =>
            s.answered i (supplyOf c s) .deferred (put1 0 ++ put2 (s.remaining (s.chan c).power.holdoffEnd))
          | .cut => s.answered i (supplyOf c s) .ok [2, 0, 0]
          | .off => s.answered i (supplyOf c s) .ok [2, 0, 0]
          | .on => s.answered i (supplyOf c s) .ok [3, 0, 0])) ∧
  ∀ (s : State) (c : Channel) (r : Run), act c r s .supplyPower = (supplyOf c s, .done .met)

/-- In CUT_HOLDOFF, HOLDOFF_EXPIRY carries the clock to the end of the hold-off. With pending-supply set it is
cleared, PEN is asserted, a POWER_SUPPLY marker is written and OFF is entered with qualification starting
from LOW; with it clear CUT is entered. Both raise POWER; the end of the hold-off stays stored (the model's
choice, log 39). In any other power state the event changes nothing (the model's choice, log 6). With the
line's record active, PULSE_END carries the clock to the pulse's end; the record is idle, a BUTTON or
RESET_PULSE marker carries the duration, the line's attribution window ends 30,000 ms later, and a RUN pulse
tells the run context. The attribution window's own expiry only carries the clock to the window's end. With
no pulse the event changes nothing (log 6). -/
def Obligations.PowerTimersEndAtTheirMoments : Prop :=
  (∀ (s : State) (c : Channel),
    let x := s.chan c
    let t := s.at x.power.holdoffEnd
    exec (.holdoffExpiry c) s = .next (
      if x.power.state ≠ .cutHoldoff then s
      else if x.power.pendingSupply then t.putChan c (x.supplied t.now t.uptime)
      else t.putChan c (({ x with power := { x.power with state := .cut } } : ChannelState).flag .power))) ∧
  (∀ (s : State) (c : Channel) (l : Line),
    exec (.pulseEnd c l) s = .next (match (s.chan c).power.pulse l with
      | none => s
      | some p =>
        let t := s.at (p.since + p.duration * 256000)
        let u := t.putChan c ((s.chan c).pulseEnded t.now t.uptime l p.duration)
        if p.origin = .run then tellRun c (.pulseEnded l) u else u)) ∧
  ∀ (s : State) (c : Channel),
    exec (.attributionWindowExpiry c .button) s = .next (s.at (s.chan c).power.buttonWindowEnd) ∧
    exec (.attributionWindowExpiry c .reset) s = .next (s.at (s.chan c).power.resetWindowEnd)

/-- For every state with READY, PRESS_BUTTON and PULSE_RESET answer the next state given whole: refused
BAD_VALUE, LOCKED, RUN_ACTIVE or (that line's record already active) BUSY, in that order and with nothing
but the link changed; otherwise the line's record becomes active with origin HOST, the clamped duration (20
to 20000 or 10 to 5000) and the present moment, in every power state, and the reply carries the duration.
The steps PRESS BUTTON and PULSE RESET take the same path with origin RUN and an active record is FAILED. -/
def Obligations.PulsesStartOnTheirLine : Prop :=
  (∀ (s : State) (tag ch : Byte) (duration : Half), s.ready = true →
    let i := Instr.pressButton tag ch duration
    let n := max 20 (min 20000 duration.toNat)
    exec i s = .next (match ident? 8 ch with
      | none => s.answered i s .badValue []
      | some c =>
        match s.powerRefusal c with
        | some st => s.answered i s st []
        | none =>
          let x := s.chan c
          if x.power.button.isSome then s.answered i s .busy []
          else s.answered i (s.putChan c { x with power := { x.power with button := some ⟨.host, n, s.now⟩ } })
            .ok (put2 n))) ∧
  (∀ (s : State) (tag ch : Byte) (duration : Half), s.ready = true →
    let i := Instr.pulseReset tag ch duration
    let n := max 10 (min 5000 duration.toNat)
    exec i s = .next (match ident? 8 ch with
      | none => s.answered i s .badValue []
      | some c =>
        match s.powerRefusal c with
        | some st => s.answered i s st []
        | none =>
          let x := s.chan c
          if x.power.reset.isSome then s.answered i s .busy []
          else s.answered i (s.putChan c { x with power := { x.power with reset := some ⟨.host, n, s.now⟩ } })
            .ok (put2 n))) ∧
  (∀ (s : State) (c : Channel) (r : Run) (n : Nat), act c r s (.pressButton n) =
    let x := s.chan c
    if x.power.button.isSome then (s, .done .failed)
    else (s.putChan c { x with power := { x.power with button := some ⟨.run, n, s.now⟩ } },
      .waits (.pulse .button) none)) ∧
  ∀ (s : State) (c : Channel) (r : Run) (n : Nat), act c r s (.pulseReset n) =
    let x := s.chan c
    if x.power.reset.isSome then (s, .done .failed)
    else (s.putChan c { x with power := { x.power with reset := some ⟨.run, n, s.now⟩ } },
      .waits (.pulse .reset) none)

/-- PG_CHANGE, LOCK_CHANGE, HB_CHANGE and VBUS_CHANGE store the raw level and change nothing else but the
timing: none where the new level is the qualified one, otherwise the moment already kept or, with none, the
present one. Power-good is timed only while PEN is asserted (OFF and ON). -/
def Obligations.LevelChangesAreTimed : Prop :=
  ∀ (s : State) (c : Channel) (level : Bool),
    let x := s.chan c
    let timing (qualified : Bool) (since : Option Nat) : Option Nat :=
      if level = qualified then none else match since with | some t => some t | none => some s.now
    exec (.pgChange c level) s = .next (s.putChan c { x with power := { x.power with
      pgRaw := level
      pgSince := if x.power.state = .off ∨ x.power.state = .on then
        timing x.power.pgQualified x.power.pgSince else none } }) ∧
    exec (.lockChange c level) s = .next (s.putChan c { x with power := { x.power with
      lockRaw := level, lockSince := timing x.power.locked x.power.lockSince } }) ∧
    exec (.hbChange c level) s = .next (s.putChan c { x with watch := { x.watch with
      raw := level, since := timing x.watch.qualified x.watch.since } }) ∧
    exec (.vbusChange c level) s = .next (s.putChan c { x with port := { x.port with
      vbusRaw := level, vbusSince := timing x.port.vbus x.port.vbusSince } })

/-- With a timing in progress, PG_QUALIFIED carries the clock to its end and the qualified level takes the raw
one. HIGH in OFF: the steps of entering ON, then WAIT POWER ON is met. LOW in ON: OFF, the steps of leaving
ON (the discarded heartbeat window's start and length stay stored, log 39) with cause BUTTON, RESET or
SPONTANEOUS by R10, delivery to the slots of a SPONTANEOUS cause, then WAIT POWER OFF is met; a RUN break
that the closing gate ends tells the run before the slot freezes. Otherwise nothing else changes. With no
timing in progress the event changes nothing (the model's choice, log 6). -/
def Obligations.PowerGoodQualifies : Prop :=
  (∀ (s : State) (c : Channel),
    exec (.pgQualified c) s = .next (match (s.chan c).power.pgSince with
      | none => s
      | some t => qualifyPg c (s.at (t + (s.chan c).power.qualifyTime * 256000)))) ∧
  ∀ (s : State) (c : Channel),
    let x := s.chan c
    let y := { x with power := { x.power with pgQualified := x.power.pgRaw, pgSince := none } }
    let cause : OffCause :=
      if x.power.button.isSome ∨ s.now < x.power.buttonWindowEnd then .button
      else if x.power.reset.isSome ∨ s.now < x.power.resetWindowEnd then .reset
      else .spontaneous
    let z := ({ y with power := { y.power with state := .off } } : ChannelState).leftOn s.now s.uptime cause
    let told := tellRun c .breakEnded
      (s.putChan c { z with tx := { z.tx with slot := x.tx.slot, hold := x.tx.hold } })
    let u := told.chan c
    let closed := { u with tx := { u.tx with slot := u.tx.slot.map fun k => k.abandon.freeze s.now, hold := none } }
    let off := if x.tx.brk.map (·.origin) = some .run then told.putChan c closed else s.putChan c z
    qualifyPg c s = (
      if x.power.state = .off ∧ x.power.pgRaw = true then
        tellRun c (.power true) (s.putChan c (y.enteredOn s.now s.uptime))
      else if x.power.state = .on ∧ x.power.pgRaw = false then
        tellRun c (.power false) (if cause = .spontaneous then deliver c .spontaneousOff off else off)
      else s.putChan c y)

/-- With a timing in progress and the state FREE, LOCK_QUALIFIED_LOCKED carries the clock to 50 ms after it
began. The state is LOCKED, an active pulse on either line ends with the whole ms it was held, pending-
supply is clear, a LOCK_ON marker is written and LOCK is raised; a RUNNING run then ends LOCKED. With no
timing or already LOCKED the event changes nothing (log 6). With a timing in progress and the state LOCKED,
LOCK_QUALIFIED_FREE carries the clock to 50 ms after it began: the state is FREE, the timing is over and a
LOCK_OFF marker is written. Every flag, pulse, supply, run and slot is as it was. Otherwise the event
changes nothing (log 6). -/
def Obligations.LockQualifyingActsByItsLevel : Prop :=
  (∀ (s : State) (c : Channel),
    let x := s.chan c
    exec (.lockQualifiedLocked c) s = .next (match x.power.lockSince with
      | none => s
      | some since =>
        if x.power.locked then s
        else
          let t := s.at (since + 50 * 256000)
          let held (p : Pulse) : Nat := min p.duration ((t.now - p.since) / 256000)
          let y := { x with power := { x.power with locked := true, lockSince := none } }
          let y := match x.power.button with
            | none => y
            | some p => y.pulseEnded t.now t.uptime .button (held p)
          let y := match x.power.reset with
            | none => y
            | some p => y.pulseEnded t.now t.uptime .reset (held p)
          let y := { y with power := { y.power with pendingSupply := false } }
          let u := t.putChan c ((y.mark t.uptime .lockOn 0).flag .lock)
          if x.context.run.isSome then endRun c .locked u else u)) ∧
  ∀ (s : State) (c : Channel),
    let x := s.chan c
    exec (.lockQualifiedFree c) s = .next (match x.power.lockSince with
      | none => s
      | some since =>
        if x.power.locked then
          let t := s.at (since + 50 * 256000)
          t.putChan c (({ x with power := { x.power with locked := false, lockSince := none } }
            : ChannelState).mark t.uptime .lockOff 0)
        else s)

/-- For every state with READY, SET_POWER_SETTINGS refuses a channel above 7 BAD_VALUE; otherwise the qualify
time is clamped to 1 to 250 ms, the minimum off time to 1 to 60 s, the reply is OK with both, and a power-
good timing that has already lasted the new qualify time qualifies when the request is taken. The hold-off
keeps its end. -/
def Obligations.PowerSettingsAreClamped : Prop :=
  ∀ (s : State) (tag ch q m : Byte), s.ready = true →
    let i := Instr.setPowerSettings tag ch q m
    let q' := max 1 (min 250 q.toNat)
    let m' := max 1 (min 60 m.toNat)
    exec i s = .next (match ident? 8 ch with
      | none => s.answered i s .badValue []
      | some c =>
        let x := s.chan c
        let t := s.putChan c { x with power := { x.power with qualifyTime := q', minimumOff := m' } }
        let u := match x.power.pgSince with
          | none => t
          | some since => if since + q' * 256000 ≤ s.now then qualifyPg c t else t
        s.answered i u .ok (put1 q' ++ put1 m'))

/-- For every state with READY, POWER_STATUS refuses a channel above 7 BAD_VALUE and otherwise replies OK with
the power state, one byte of levels and flags (button, reset, PEN, raw PG, pending-supply, LOCKED in bits 0
to 5; bits 6 and 7 are 0, the model's choice, log 34), the hold-off, button and reset remaining (rounded up,
the model's choice, log 8), the last cause with its uptime and both settings. Nothing but the link changes. -/
def Obligations.PowerStatusReportsTheRecord : Prop :=
  ∀ (s : State) (tag ch : Byte), s.ready = true →
    let i := Instr.powerStatus tag ch
    exec i s = .next (match ident? 8 ch with
      | none => s.answered i s .badValue []
      | some c =>
        let p := (s.chan c).power
        let left (r : Option Pulse) : Nat :=
          match r with | none => 0 | some x => s.remaining (x.since + x.duration * 256000)
        let bit (b : Bool) (n : Nat) : Nat := if b then n else 0
        s.answered i s .ok
          (put1 p.state.code ++
            put1 (bit p.button.isSome 1 + bit p.reset.isSome 2 + bit p.state.pen 4 + bit p.pgRaw 8 +
              bit p.pendingSupply 16 + bit p.locked 32) ++
            put2 (if p.state = .cutHoldoff then s.remaining p.holdoffEnd else 0) ++
            put2 (left p.button) ++ put2 (left p.reset) ++ put1 p.lastCause.code ++ p.lastCauseAt.bytes ++
            put1 p.qualifyTime ++ put1 p.minimumOff))

/-- For every state with READY, RELEARN_BAUD refuses a channel above 7 BAD_VALUE and otherwise replies OK with
the finder state. In HUNTING: agreement 0, no candidate, window restarted. In LOCKED: HUNTING the same way
with the locked rate and the divisor kept, a BAUD_LOST marker with the locked rate's index, BAUD raised, the
partial-match progress of all four units 0. In FIXED: no effect. The RELEARN BAUD step and the power-up
signal, where the setting is on, have the same effect. -/
def Obligations.RelearnSendsTheFinderHunting : Prop :=
  (∀ (s : State) (tag ch : Byte), s.ready = true →
    let i := Instr.relearnBaud tag ch
    exec i s = .next (match ident? 8 ch with
      | none => s.answered i s .badValue []
      | some c =>
        let y := (s.chan c).relearned s.now s.uptime
        s.answered i (s.putChan c y) .ok (put1 y.finder.state.code))) ∧
  (∀ (s : State) (c : Channel) (r : Run), act c r s .relearnBaud =
    (s.putChan c ((s.chan c).relearned s.now s.uptime), .done .met)) ∧
  ∀ (s : State) (c : Channel), powerUpSignal c s =
    if (s.chan c).finder.settings.relearn then s.putChan c ((s.chan c).relearned s.now s.uptime) else s

/-- For every state with READY, SET_BAUD_MODE refuses a channel above 7 and a mode above 1 BAD_VALUE. FIXED (1):
the rate clamped to 300 to 1,000,000, the divisor rounded to the nearest, agreement 0, no candidate, BAUD
raised, progress reset, window restarted, the last locked rate kept; reply: rate and D. AUTO (0) in FIXED:
HUNTING at the last locked rate with the same effects; elsewhere no effect, and the reply gives the state.
Every reply has places for rate, D and state in that order (log 16); one that its case does not name holds
free bytes (log 9). The mode's numbers are the model's (log 16). For every state with READY,
SET_BAUD_SETTINGS and SET_HEARTBEAT_SETTINGS refuse a channel above 7 and a two-valued field above 1
BAD_VALUE; otherwise all five settings are replaced, windows taken down to a multiple of 50 or 250 ms and
clamped, the rest clamped, and the reply carries them in order. The window in progress keeps its length.
Turning the heartbeat enable on with the power ON opens the gate (a fresh window, WATCHING), turning it off
closes it (IDLE). The host's rate outside FIXED and the window's start and length while the gate is closed
stay stored (the model's choice, log 39). -/
def Obligations.MonitorSettingsAreReplaced : Prop :=
  (∀ (s : State) (tag ch mode : Byte) (rate : Quad), s.ready = true →
    let i := Instr.setBaudMode tag ch mode rate
    exec i s = .next (match ident? 8 ch with
      | none => s.answered i s .badValue []
      | some c =>
        let f := (s.chan c).finder
        let r := max 300 (min 1000000 rate.toNat)
        let a := tableRate f.lastLocked
        if mode = 1 then
          s.answered i (s.putChan c ((s.chan c).moded s.now .fixed r r)) .ok
            (put4 r ++ put4 (divisorOf r) ++ [s.unstated 0])
        else if mode = 0 ∧ f.state = .fixed then
          s.answered i (s.putChan c ((s.chan c).moded s.now .hunting f.fixedRate a)) .ok
            (put4 a ++ put4 (divisorOf a) ++ [s.unstated 0])
        else if mode = 0 then s.answered i s .ok ((List.range 8).map s.unstated ++ put1 f.state.code)
        else s.answered i s .badValue [])) ∧
  (∀ (s : State) (tag ch : Byte) (w : Half) (a b d e : Byte), s.ready = true →
    let i := Instr.setBaudSettings tag ch w a b d e
    exec i s = .next (match ident? 8 ch, flag? e with
      | some c, some on =>
        let x := s.chan c
        let v : FinderSettings := ⟨max 50 (min 1000 (w.toNat / 50 * 50)), max 2 (min 8 a.toNat),
          max 2 (min 8 b.toNat), max 1 (min 255 d.toNat), on⟩
        s.answered i (s.putChan c { x with finder := { x.finder with settings := v } }) .ok
          (put2 v.window ++ put1 v.tolerance ++ put1 v.agree ++ put1 v.threshold ++ putFlag on)
      | _, _ => s.answered i s .badValue [])) ∧
  ∀ (s : State) (tag ch e : Byte) (w p q : Half) (k : Byte), s.ready = true →
    let i := Instr.setHeartbeatSettings tag ch e w p q k
    exec i s = .next (match ident? 8 ch, flag? e with
      | some c, some on =>
        let x := s.chan c
        let v : WatchSettings := ⟨on, max 250 (min 4000 (w.toNat / 250 * 250)), p.toNat, q.toNat,
          max 1 (min 15 k.toNat)⟩
        let u : Watch := { x.watch with settings := v }
        let u' : Watch :=
          if on = x.watch.settings.enable then u
          else if on then
            if x.power.state = .on then { u with
              state := .watching, count := 0, windowStart := s.now, windowLength := v.window
              lowStreak := 0, fastRaised := false }
            else u
          else { u with state := .idle, count := 0, lowStreak := 0, fastRaised := false }
        s.answered i (s.putChan c { x with watch := u' }) .ok
          (putFlag on ++ put2 v.window ++ put2 v.sp1 ++ put2 v.sp2 ++ put1 v.streak)
      | _, _ => s.answered i s .badValue [])

/-- For every Q, shortest run M and tolerance T: with Q below 16 the verdict is SPARSE; otherwise, for the rate
r whose error |M × rate − 64,000,000| is the smallest, the lower rate winning a tie, the verdict is the
candidate r if error × 100 ≤ 64,000,000 × T and OUT_OF_TOLERANCE if not. For every rate r from 300 to
1,000,000 the divisor D satisfies (2D − 1) × r ≤ 512,000,000 < (2D + 1) × r, which is rounding to the
nearest with an exact half rounded up, and lies in 256 to 853,333; the table rates have the divisors of the
table of 2.1. -/
def Obligations.TheVerdictTakesTheNearestRate : Prop :=
  (∀ (q m t : Nat) (r : RateIx),
    let error (k : RateIx) : Nat := ((m * tableRate k : Int) - 64000000).natAbs
    (∀ k : RateIx, error r < error k ∨ error r = error k ∧ r ≤ k) →
    verdictOf q (some m) t =
      if q < 16 then .sparse
      else if error r * 100 ≤ 64000000 * t then .candidate r
      else .outOfTolerance) ∧
  (∀ r : Nat, 300 ≤ r → r ≤ 1000000 →
    let d := divisorOf r
    2 * d * r ≤ 512000000 + r ∧ 512000000 < 2 * d * r + r ∧ 256 ≤ d ∧ d ≤ 853333) ∧
  ∀ i : RateIx, divisorOf (tableRate i) =
    [213333, 106667, 53333, 26667, 13333, 6667, 4444, 2222, 1111, 556, 278].getD i.val 0

/-- BAUD_WINDOW_END carries the clock to the end of the window in progress and acts on the verdict: in HUNTING,
agreement and candidate move as R26's table says and at the agree count the finder locks, with the divisor
loaded, BAUD_LOCK, BAUD and progress reset; in LOCKED, framing errors at the threshold with a verdict other
than the locked rate lose the lock; in FIXED no verdict is formed. Q, M, F, verdict and error become the
last-window figures, and the next window starts where this one ended with the length setting in force. -/
def Obligations.BaudWindowsEndByState : Prop :=
  ∀ (s : State) (c : Channel),
    let x := s.chan c
    let f := x.finder
    let ends := f.windowStart + f.windowLength * 256000
    let t := s.at ends
    let v : Verdict := if f.state = .fixed then .none else verdictOf f.q f.m f.settings.tolerance
    let quiet := x.units.map fun u => { u with progress := 0 }
    let y : ChannelState :=
      match f.state, v with
      | .hunting, .outOfTolerance => { x with finder := { f with agreement := 0, candidate := none } }
      | .hunting, .candidate r =>
        let n := if f.candidate = some r then f.agreement + 1 else 1
        if f.settings.agree ≤ n then
          (({ x with
              finder := { f with
                agreement := n, candidate := some r, state := .locked, lastLocked := r
                divisor := divisorOf (tableRate r) }
              units := quiet } : ChannelState).mark t.uptime .baudLock r.val).flag .baud
        else { x with finder := { f with agreement := n, candidate := some r } }
      | .locked, v =>
        if f.settings.threshold ≤ f.f ∧ v ≠ .candidate f.lastLocked then
          (({ x with
              finder := { f with state := .hunting, agreement := 0, candidate := none }
              units := quiet } : ChannelState).mark t.uptime .baudLost f.lastLocked.val).flag .baud
        else x
      | _, _ => x
    exec (.baudWindowEnd c) s = .next (t.putChan c { y with finder := { y.finder with
      last := ⟨f.q, f.m, f.f, v, windowError f.q f.m⟩
      windowStart := ends, windowLength := f.settings.window, q := 0, m := none, f := 0 } })

/-- RXD_RAW_CHANGE after a gap of ticks, and SURVIVING_EDGE 32 ticks after the raw change. An edge not yet 32
ticks old is dropped by the line's return; one that is survives. Surviving, it is timed at the raw change:
the run since the last surviving edge, below 65,535 ticks, counts into Q and M, a new run opens and the
receiver sees the level. A character that the edge starts takes the divisor as it stands when the edge
survives, not at the raw change (the model's choice, log 31). A return at exactly 32 ticks survives and the
gap operand are the model's choices (logs 11 and 25). With a timing in progress, HEARTBEAT_EDGE (from low)
and HEARTBEAT_QUALIFIED_LOW (from high) carry the clock to 2 ms after it began and take the level; a rise
with the watch enabled and the power ON adds one to the window's count, which stops at 65,535. Otherwise the
events change nothing (log 6). -/
def Obligations.InputEdgesAreFilteredAndQualified : Prop :=
  (∀ (s : State) (c : Channel),
    exec (.survivingEdge c) s = .next (match (s.chan c).finder.edgeAt with
      | none => s
      | some t => (s.at (t + 128)).putChan c ((s.chan c).edgeSurvived t))) ∧
  (∀ (s : State) (c : Channel) (level : Bool) (gap : Nat),
    let t := { s with now := s.now + gap * 4 }
    let x := s.chan c
    let raw (y : ChannelState) (edge : Option Nat) : State :=
      t.putChan c { y with finder := { y.finder with rxdRaw := level, edgeAt := edge } }
    exec (.rxdRawChange c level gap) s = .next (
      if level = x.finder.rxdRaw then t
      else match x.finder.edgeAt with
        | none => raw x (some t.now)
        | some e => if t.now < e + 128 then raw x none else raw (x.edgeSurvived e) (some t.now))) ∧
  ∀ (s : State) (c : Channel),
    let x := s.chan c
    let w := x.watch
    exec (.heartbeatEdge c) s = .next (match w.since with
      | none => s
      | some t =>
        if w.qualified then s
        else (s.at (t + 512000)).putChan c { x with watch := { w with
          qualified := true, since := none
          count := if w.settings.enable = true ∧ x.power.state = .on then min 65535 (w.count + 1)
            else w.count } }) ∧
    exec (.heartbeatQualifiedLow c) s = .next (match w.since with
      | none => s
      | some t =>
        if w.qualified then
          (s.at (t + 512000)).putChan c { x with watch := { w with qualified := false, since := none } }
        else s)

/-- With the gate open, HEARTBEAT_WINDOW_END carries the clock to the window's end. The count becomes the held
count with its uptime and the next window starts. Below SP2 the low streak rises and at the hang streak, in
WATCHING, HANG is raised (HUNG, marker, flag, slots); otherwise the streak is 0 and HUNG becomes WATCHING.
Above SP1 with FAST not yet raised FAST is raised; at or below SP1 it is re-armed. That HUNG and the FAST-
raised indicator are set before the marker, the flag and the delivery to the slots is the model's choice
(log 32). Then a run that was already waiting for a window is told (the word 'already' is log 14's). With
the gate closed the event changes nothing (the model's choice, log 6). -/
def Obligations.HeartbeatWindowsRaiseHangAndFast : Prop :=
  ∀ (s : State) (c : Channel),
    let x := s.chan c
    let w := x.watch
    let ends := w.windowStart + w.windowLength * 256000
    let t := s.at ends
    let low := decide (w.count < w.settings.sp2)
    let streak := if low then min 255 (w.lowStreak + 1) else 0
    let hangs : Bool := low && decide (w.state = .watching) && decide (w.settings.streak ≤ streak)
    let v : Watch := { w with
      held := w.count, heldAt := t.uptime, count := 0, windowStart := ends, windowLength := w.settings.window
      lowStreak := streak
      state := if hangs then .hung else if !low && decide (w.state = .hung) then .watching else w.state }
    let y : ChannelState := { x with watch := v }
    let a := if hangs then deliver c .hang (t.putChan c ((y.mark t.uptime .hang 0).flag .hang)) else t.putChan c y
    let z := a.chan c
    let fast := decide (z.watch.settings.sp1 < w.count)
    let b :=
      if fast && !z.watch.fastRaised then
        deliver c .fast (a.putChan c
          ((({ z with watch := { z.watch with fastRaised := true } } : ChannelState).mark a.uptime .fast 0).flag .fast))
      else if fast then a
      else a.putChan c { z with watch := { z.watch with fastRaised := false } }
    exec (.heartbeatWindowEnd c) s = .next (
      if w.settings.enable = true ∧ x.power.state = .on then
        if s.waitsWindow c then tellRun c (.window (decide (w.settings.sp2 ≤ w.count))) b else b
      else s)

/-- With a character in ASSEMBLE whose ten samples (those taken at its mid-bits, the line's level for the rest)
begin low: CHARACTER_ACCEPTED, the stop sample high, carries the clock to the stop bit's middle and hands
the byte, least significant bit first, to the store, the units and the run; FRAMING_ERROR, the stop sample
low, counts in F and waits for a high line; FALSE_START, the start sample high before any sample was taken,
returns to WAIT_START. The middle of a bit is rounded down to the model's clock (log 11). That a sample not
yet taken uses the filtered level as it stands, also while a raw change is under its 32-tick test, is the
model's choice (log 31). Otherwise the events change nothing (log 6). For every state and byte: below the
stream's end a byte that needs a page takes one from the pool where the pool grants it (held below the
floor, or below the ceiling with the pool check passing) and otherwise recycles the oldest page, with oldest
up by 4096, markers below it dropped and LOSS raised; the byte then ends the newest page, next rises by one
and DATA is raised. At the end of the stream nothing is captured. The byte then reaches the four units in
order, also a unit that an earlier unit's hit had armed or reset in this same event (the model's choice, log
36), and, captured, a run already waiting for bytes (the word 'already' is the model's reading, log 14). -/
def Obligations.CharactersAreAcceptedAndCaptured : Prop :=
  (∀ (s : State) (c : Channel),
    let x := s.chan c
    let level := x.finder.rxdLevel
    let all (l : List Bool) : List Bool := l ++ List.replicate (10 - l.length) level
    let middle (since d k : Nat) : Nat := since + (2 * k + 1) * d / 2
    let value (l : List Bool) : Byte :=
      BitVec.ofNat 8 (((List.range 8).map fun k => if (all l).getD (k + 1) false then 2 ^ k else 0).sum)
    exec (.characterAccepted c) s = .next (match x.framing with
      | .assemble since d l =>
        if (all l)[0]? = some false ∧ (all l)[9]? = some true then
          let t := s.at (middle since d 9)
          acceptByte c (value l) (t.putChan c { x with framing := .waitStart })
        else s
      | _ => s) ∧
    exec (.framingError c) s = .next (match x.framing with
      | .assemble since d l =>
        if (all l)[0]? = some false ∧ (all l)[9]? = some false then
          let t := s.at (middle since d 9)
          t.putChan c { x with
            framing := if level then .waitStart else .waitHigh
            finder := { x.finder with f := min 255 (x.finder.f + 1) } }
        else s
      | _ => s) ∧
    exec (.falseStart c) s = .next (match x.framing with
      | .assemble since d l =>
        if l = [] ∧ (all l)[0]? = some true then
          (s.at (middle since d 0)).putChan c { x with framing := .waitStart }
        else s
      | _ => s)) ∧
  ∀ (s : State) (c : Channel) (b : Byte), acceptByte c b s =
    let captured := decide ((s.chan c).store.next < 2 ^ 48 - 1)
    let t := (List.finRange 4).foldl (unitSees c b) (if captured then capturedOf c b s else s)
    if captured && s.waitsBytes c then tellRun c .byte t else t

/-- For every state with READY, SET_CAPTURE_LIMITS refuses a channel above 7 BAD_VALUE. The floor is clamped to
2 to 32, the ceiling from the floor to 64. The store that results sheds its oldest pages down to the
ceiling, with oldest up by 4096 each, markers below it dropped and LOSS raised once. Where that state breaks
the guarantee (unmet floors above reclaimable pages) the request is refused FLOOR_UNAVAILABLE and changes
nothing; otherwise it stands, the page waiters are served, and the reply is OK. Both replies give floor,
ceiling and pages held. -/
def Obligations.CaptureLimitsKeepTheFloors : Prop :=
  ∀ (s : State) (tag ch floor ceiling : Byte), s.ready = true →
    let i := Instr.setCaptureLimits tag ch floor ceiling
    let f := max 2 (min 32 floor.toNat)
    let l := max f (min 64 ceiling.toNat)
    exec i s = .next (match ident? 8 ch with
      | none => s.answered i s .badValue []
      | some c =>
        let x := s.chan c
        let st := x.store
        let n := st.pages.length - l
        let st' : Store := { st with
          floor := f, ceiling := l, pages := st.pages.drop n, oldest := st.oldest + n * 4096
          markers := st.markers.filter fun m => st.oldest + n * 4096 ≤ m.position }
        let y := { x with store := st' }
        let t := s.putChan c (if n = 0 then y else y.flag .loss)
        let body (z : Store) : List Byte := put1 z.floor ++ put1 z.ceiling ++ put1 z.pages.length
        if t.unmet ≤ t.reclaimable then s.answered i (servePages t) .ok (body st')
        else s.answered i s .floorUnavailable (body st))

/-- For every state with READY, CONSOLE_READ refuses a channel above 7 BAD_VALUE and otherwise changes nothing
but the link: start is the asked position clamped into oldest to next, count the smaller of the maximum
(clamped to 1 to 1024) and next − start, the gap bit says the asked position was below oldest, the bytes are
those at start to start + count − 1, and the markers are those at positions start to start + count, both
included, after the skip (clamped to 0 to 63), at most 16, with the more bit saying that some remain. The
layout is that of 11.6; bits 2 to 7 of the byte of the two bits are 0 (the model's choice, log 34). -/
def Obligations.ConsoleReadReturnsTheRange : Prop :=
  ∀ (s : State) (tag ch : Byte) (start : Pos48) (maximum : Half) (skip : Byte), s.ready = true →
    let i := Instr.consoleRead tag ch start maximum skip
    exec i s = .next (match ident? 8 ch with
      | none => s.answered i s .badValue []
      | some c =>
        let st := (s.chan c).store
        let first := max st.oldest (min st.next start.toNat)
        let count := min (max 1 (min 1024 maximum.toNat)) (st.next - first)
        let range := st.markers.filter fun m => first ≤ m.position && m.position ≤ first + count
        let rest := range.drop (max 0 (min 63 skip.toNat))
        s.answered i s .ok
          (put6 first ++ put2 count ++ put6 st.next ++ put6 st.oldest ++
            put1 ((if start.toNat < st.oldest then 1 else 0) + (if 16 < rest.length then 2 else 0)) ++
            put1 (rest.take 16).length ++
            ((List.range count).flatMap fun k => (st.byteAt (first + k)).toList) ++
            (rest.take 16).flatMap Marker.bytes))

/-- The arbiter acts where the power is ON with no character and no break on the line and no steps of an end
being carried out (settling: at a break's end by R68 step 4, at a character's end by the model's choice, log
33), and not elsewhere. It starts a pending break whatever Sn_RTR. With nothing to send a hold ends. A
choice is held, keeping a hold's start, while flow control is on and Sn_RTR deasserted. Otherwise the byte
goes on the line at the divisor in force, the hold ends, and the byte leaves its source: the pass advances,
a due pass starts (due cleared, the countdown of a repeating slot set to its interval), or the queue loses
its oldest byte. -/
def Obligations.TheArbiterChoosesInOrder : Prop :=
  (∀ (s : State) (c : Channel), arbitrate c s = s.putChan c ((s.chan c).arbitrated s.now)) ∧
  ∀ (t : Transmitter) (now d : Nat),
    let sends (b : Byte) (slot : Option KeySlot) (queue : List Byte) : Transmitter :=
      if t.flow = true ∧ t.rtr = false then { t with hold := some (match t.hold with | some h => h | none => now) }
      else { t with char := some ⟨b, now, d⟩, hold := none, slot := slot, queue := queue }
    let fromQueue : Transmitter := match t.queue with
      | [] => { t with hold := none }
      | b :: rest => sends b t.slot rest
    t.arbitrate now d = match t.brk with
      | some b => { t with brk := some { b with since := some now } }
      | none => match t.slot with
        | none => fromQueue
        | some k => match k.progress with
          | some p => match k.string[p]? with
            | some b => sends b (some { k with progress := some (p + 1) }) t.queue
            | none => fromQueue
          | none => match k.due, k.string with
            | true, b :: _ => sends b (some { k with
                due := false, progress := some 1
                countdown := if k.interval = 0 then .none else .running (now + k.interval * 256000) }) t.queue
            | _, _ => fromQueue

/-- For every state with READY and every well-formed request: BAD_VALUE for a channel above 7, WRONG_STATE
unless the power state is ON, with nothing but the link changed; otherwise the first bytes of the request
join the newest end of the queue, as many as 256 and the room of 512 less those queued allow, the arbiter of
an idle transmitter acts at once (not while the steps of an end are carried out, log 33), and the reply is
OK with the count taken and the room left (before the arbiter takes a byte: log 16). For every state with
READY, SEND_BREAK is refused BAD_VALUE, WRONG_STATE (not ON) or BUSY (a break pending or sending) in that
order, with nothing but the link changed; otherwise the record is pending with origin HOST and the duration
clamped to 10 to 2,550 ms, starting at once at a byte boundary, and the reply carries the duration. The SEND
BREAK step takes the same path with origin RUN, and what refuses the request ends the step FAILED. -/
def Obligations.SendConsoleAndSendBreakAreTaken : Prop :=
  (∀ (s : State) (tag ch : Byte) (bytes : List Byte), s.ready = true → bytes.length ≤ 4159 →
    let i := Instr.sendConsole tag ch bytes
    exec i s = .next (match ident? 8 ch with
      | none => s.answered i s .badValue []
      | some c =>
        let x := s.chan c
        let room := 512 - x.tx.queue.length
        let n := min (min 256 room) bytes.length
        if x.power.state ≠ .on then s.answered i s .wrongState []
        else s.answered i (s.putChan c
            (({ x with tx := { x.tx with queue := x.tx.queue ++ bytes.take n } } : ChannelState).arbitrated s.now))
          .ok (put2 n ++ put2 (room - n)))) ∧
  (∀ (s : State) (tag ch : Byte) (duration : Half), s.ready = true →
    let i := Instr.sendBreak tag ch duration
    let n := max 10 (min 2550 duration.toNat)
    exec i s = .next (match ident? 8 ch with
      | none => s.answered i s .badValue []
      | some c =>
        let x := s.chan c
        if x.power.state ≠ .on then s.answered i s .wrongState []
        else if x.tx.brk.isSome then s.answered i s .busy []
        else s.answered i (s.putChan c
            (({ x with tx := { x.tx with brk := some ⟨.host, n, none⟩ } } : ChannelState).arbitrated s.now))
          .ok (put2 n))) ∧
  ∀ (s : State) (c : Channel) (r : Run) (n : Nat), act c r s (.sendBreak n) =
    let x := s.chan c
    if x.power.state ≠ .on ∨ x.tx.brk.isSome then (s, .done .failed)
    else (s.putChan c
        (({ x with tx := { x.tx with brk := some ⟨.run, n, none⟩ } } : ChannelState).arbitrated s.now),
      .waits .breakSent none)

/-- For every state with READY, FLUSH_CONSOLE_TX refuses a channel above 7 BAD_VALUE; otherwise, whatever the
power state, the lock and the run, the queue is empty, no marker or flag is raised, a held transmitter with
nothing left ends its hold (not while the steps of an end are carried out: settling, log 33), and the reply
is OK with the number of bytes discarded. -/
def Obligations.FlushEmptiesTheQueue : Prop :=
  ∀ (s : State) (tag ch : Byte), s.ready = true →
    let i := Instr.flushConsoleTx tag ch
    exec i s = .next (match ident? 8 ch with
      | none => s.answered i s .badValue []
      | some c =>
        let x := s.chan c
        s.answered i
          (s.putChan c (({ x with tx := { x.tx with queue := [] } } : ChannelState).arbitrated s.now))
          .ok (put2 x.tx.queue.length))

/-- For every state with READY, SET_TRANSMIT_SETTINGS refuses a channel above 7 and a flow control value above 1
BAD_VALUE; otherwise flow control and the stall limit (0 for none, else clamped to 1 to 60 s) are replaced
and the reply is OK with both. With flow control off a hold ends and the arbiter chooses, also where the new
limit has passed (the model's reading, log 29); with it on a hold that has already lasted the new limit
stalls. CHARACTER_END, ten bit times after the start bit, clears the line, completes a pass whose last byte
it was (a once slot is spent and tells the run) and lets the arbiter choose. BREAK_END, after the duration,
clears the record, writes BREAK_SENT, tells the run of a RUN break and lets the arbiter choose. The
arbiter's choice is the last step of either end: what the run does when told makes things ready and starts
none (for a character's end log 33). KEY_COUNTDOWN_EXPIRY makes a pass due. STALL_EXPIRY stalls.
RTR_ASSERTED stores the level it carries (log 17), and a high one ends a hold. Without what they end the
events change nothing (log 6). Sn_TXD is low in a break; in a character it is low for the start bit, then
the data bits least significant first, then high, each a divisor long; otherwise it is high. The state is
GATED unless ON, else BREAKING, SENDING, HELD or IDLE, the first that applies. -/
def Obligations.TheTransmitterActsAtItsMoments : Prop :=
  (∀ (s : State) (tag ch flow limit : Byte), s.ready = true →
    let i := Instr.setTransmitSettings tag ch flow limit
    let n := if limit = 0 then 0 else max 1 (min 60 limit.toNat)
    exec i s = .next (match ident? 8 ch, flag? flow with
      | some c, some on =>
        let x := s.chan c
        let y := { x with tx := { x.tx with flow := on, stallLimit := n } }
        let z : ChannelState := match x.tx.hold with
          | none => y
          | some t =>
            if !on then ({ y with tx := { y.tx with hold := none } } : ChannelState).arbitrated s.now
            else if n ≠ 0 ∧ t + n * 1000 * 256000 ≤ s.now then y.stalled s.now s.uptime
            else y
        s.answered i (s.putChan c z) .ok (putFlag on ++ put1 n)
      | _, _ => s.answered i s .badValue [])) ∧
  ∀ (s : State) (c : Channel),
    let x := s.chan c
    let withTx (t : State) (v : Transmitter) : State := t.putChan c { x with tx := v }
    let chooses (t : State) : State :=
      let y := t.chan c
      t.putChan c (({ y with tx := { y.tx with settling := false } } : ChannelState).arbitrated t.now)
    exec (.characterEnd c) s = .next (match x.tx.char with
      | none => s
      | some k =>
        let t := s.at (k.since + 10 * k.divisor)
        let bare := { x.tx with char := none, settling := true }
        chooses (match x.tx.slot with
          | none => withTx t bare
          | some v =>
            if v.progress = some v.string.length then
              let u := withTx t { bare with slot := some { v with progress := none, spent := v.spent || v.interval = 0 } }
              if v.interval = 0 then tellRun c .passDone u else u
            else withTx t bare)) ∧
    exec (.breakEnd c) s = .next (match x.tx.brk with
      | some ⟨origin, duration, some since⟩ =>
        let t := s.at (since + duration * 256000)
        let u := t.putChan c
          (({ x with tx := { x.tx with brk := none, settling := true } } : ChannelState).mark t.uptime .breakSent
            duration)
        chooses (if origin = .run then tellRun c .breakEnded u else u)
      | _ => s) ∧
    exec (.keyCountdownExpiry c) s = .next (match x.tx.slot with
      | some k => match k.countdown with
        | .running due =>
          arbitrate c (withTx (s.at due) { x.tx with slot := some { k with due := true, countdown := .none } })
        | _ => s
      | none => s) ∧
    exec (.stallExpiry c) s = .next (match x.tx.hold with
      | none => s
      | some since =>
        if x.tx.stallLimit = 0 then s
        else
          let t := s.at (since + x.tx.stallLimit * 1000 * 256000)
          t.putChan c (x.stalled t.now t.uptime)) ∧
    exec (.rtrAsserted c false) s = .next (withTx s { x.tx with rtr := false }) ∧
    exec (.rtrAsserted c true) s = .next (
      if x.tx.hold.isSome then arbitrate c (withTx s { x.tx with rtr := true, hold := none })
      else withTx s { x.tx with rtr := true }) ∧
    s.txd c = (match s.txState c, x.tx.char with
      | .breaking, _ => false
      | .sending, some k =>
        let n := (s.now - k.since) / k.divisor
        if n = 0 then false else if n ≤ 8 then k.byte.getLsbD (n - 1) else true
      | _, _ => true) ∧
    s.txState c = (
      if x.power.state ≠ .on then .gated
      else if x.tx.breaking then .breaking
      else if x.tx.char.isSome then .sending
      else if x.tx.hold.isSome then .held
      else .idle)

/-- For every state, channel, unit and byte: where the byte completes the unit's match, its hit count rises (at
most to 255), pending-hit is set, ONE_SHOT enters HIT, a MATCH marker with the unit's number is written at
next, MATCH is raised, the run is told and the MATCH event delivered, in that order. Where it does not, only
the progress of an ARMED unit may change; a unit that is not ARMED, and with it the whole state, is as it
was. -/
def Obligations.AHitActsInOrder : Prop :=
  ∀ (s : State) (c : Channel) (u : UnitNo) (b : Byte),
    let x := s.chan c
    let v := x.units.get u
    let w := v.see b
    let y : ChannelState := { x with units := x.units.set u w }
    unitSees c b s u = (
      if v.completes b then
        deliver c (.matched u) (tellRun c (.hit u) (s.putChan c ((y.mark s.uptime .matched u.val).flag .matched)))
      else s.putChan c y) ∧
    (v.completes b = true → w = { v with
      hits := min 255 (v.hits + 1), pending := true, state := if v.counting then .armed else .hit
      progress := w.progress }) ∧
    (v.completes b = false → w = if v.state = .armed then { v with progress := w.progress } else v) ∧
    (v.state ≠ .armed → unitSees c b s u = s)

/-- For every byte: with case-fold off it compares as itself; with it on 0x41 to 0x5A is taken as the byte 0x20
above it and every other byte as itself. The pattern is folded for comparison only: the stored bytes are
unchanged. For every unit ARMED with a pattern of length L and progress 0, and every text fed to it byte by
byte that leaves it ARMED (a COUNTING unit always is; a ONE_SHOT unit until it hits): after the text the
progress p is below L, the first p bytes of the pattern end the text under the unit's folding, and no longer
proper prefix does; a further byte completes a match exactly where the whole pattern then ends the text. For
every ARMED unit a byte that completes a match leaves a ONE_SHOT unit in HIT with progress 0, and one that
does not leaves all but the progress. -/
def Obligations.MatchProgressFollowsTheWholeText : Prop :=
  (∀ (b : Byte) (u : MatchUnit),
    foldByte false b = b ∧
    (0x41 ≤ b.toNat ∧ b.toNat ≤ 0x5A → foldByte true b = b + 0x20) ∧
    (b.toNat < 0x41 ∨ 0x5A < b.toNat → foldByte true b = b) ∧
    u.folded = u.pattern.map (foldByte u.fold) ∧ (u.see b).pattern = u.pattern) ∧
  (∀ (u : MatchUnit) (text : List Byte) (b : Byte),
    u.state = .armed → u.progress = 0 → u.pattern ≠ [] →
    (text.foldl (fun u b => u.see b) u).state = .armed →
    let v := text.foldl (fun u b => u.see b) u
    let seen := text.map (foldByte u.fold)
    v.progress < u.pattern.length ∧
      u.folded.take v.progress <:+ seen ∧
      (∀ k : Nat, k < u.pattern.length → u.folded.take k <:+ seen → k ≤ v.progress) ∧
      (v.completes b = true ↔ u.folded <:+ seen ++ [foldByte u.fold b])) ∧
  ∀ (u : MatchUnit) (b : Byte), u.state = .armed →
    (u.counting = true → (u.see b).state = .armed) ∧
    (u.completes b = true → u.counting = false → (u.see b).state = .hit ∧ (u.see b).progress = 0) ∧
    (u.completes b = false → u.see b = { u with progress := (u.see b).progress })

/-- For every state with READY, SET_PATTERN, ARM_MATCH and DISARM_MATCH refuse a channel above 7, a unit above 3
(and an option or mode above 1) BAD_VALUE. Set Pattern takes at most 16 bytes, clears hits, pending-hit and
progress, and enters DISARMED, or UNSET with no bytes, when a run waiting on the unit is told. Arm (request
and step): UNSET is WRONG_STATE (the step FAILED); otherwise ARMED, pending-hit cleared, progress 0, hits
kept. Disarm: UNSET is WRONG_STATE; otherwise DISARMED with progress 0, hits and pending-hit kept. -/
def Obligations.PatternsAreSetArmedAndDisarmed : Prop :=
  (∀ (s : State) (tag ch unit fold mode : Byte) (pattern : List Byte), s.ready = true → pattern.length ≤ 4156 →
    let i := Instr.setPattern tag ch unit fold mode pattern
    exec i s = .next (match ident? 8 ch, ident? 4 unit, flag? fold, flag? mode with
      | some c, some u, some f, some m =>
        let x := s.chan c
        let v : MatchUnit := ⟨pattern.take 16, f, m, if pattern = [] then .unset else .disarmed, 0, false, 0⟩
        let t := s.putChan c { x with units := x.units.set u v }
        let t' := if pattern = [] then tellRun c (.unset u) t else t
        s.answered i t' .ok (put1 (min 16 pattern.length) ++ put1 (t'.unit c u).state.code)
      | _, _, _, _ => s.answered i s .badValue [])) ∧
  (∀ (s : State) (tag ch unit : Byte), s.ready = true →
    let i := Instr.armMatch tag ch unit
    exec i s = .next (match ident? 8 ch, ident? 4 unit with
      | some c, some u =>
        let x := s.chan c
        let v := x.units.get u
        if v.state = .unset then s.answered i s .wrongState []
        else
          let w := { v with state := .armed, pending := false, progress := 0 }
          s.answered i (s.putChan c { x with units := x.units.set u w }) .ok [2]
      | _, _ => s.answered i s .badValue [])) ∧
  (∀ (s : State) (c : Channel) (r : Run) (u : UnitNo), act c r s (.armMatch u) =
    let x := s.chan c
    let v := x.units.get u
    if v.state = .unset then (s, .done .failed)
    else
      let w := { v with state := .armed, pending := false, progress := 0 }
      (s.putChan c { x with units := x.units.set u w }, .done .met)) ∧
  ∀ (s : State) (tag ch unit : Byte), s.ready = true →
    let i := Instr.disarmMatch tag ch unit
    exec i s = .next (match ident? 8 ch, ident? 4 unit with
      | some c, some u =>
        let x := s.chan c
        let v := x.units.get u
        if v.state = .unset then s.answered i s .wrongState []
        else
          let w := { v with state := .disarmed, progress := 0 }
          s.answered i (s.putChan c { x with units := x.units.set u w }) .ok [1]
      | _, _ => s.answered i s .badValue [])

/-- For every descriptor of block size 512 or 4096 and capacity at least 1: blocks per page is 8 or 1; image
pages n satisfies (n − 1) × bpp < capacity ≤ n × bpp; the last page has capacity − (n − 1) × bpp valid
blocks, from 1 to bpp, and every other page all of them; every block of the capacity lies in an image page
below n, at a place below that page's valid blocks. -/
def Obligations.TheImageGeometryCoversTheCapacity : Prop :=
  ∀ k : Descriptor, k.blockSize = 512 ∨ k.blockSize = 4096 → 1 ≤ k.capacity →
    let b := k.blocksPerPage
    let n := k.imagePages
    b = (if k.blockSize = 512 then 8 else 1) ∧
    (n - 1) * b < k.capacity ∧ k.capacity ≤ n * b ∧
    k.lastValid = k.capacity - (n - 1) * b ∧ 1 ≤ k.lastValid ∧ k.lastValid ≤ b ∧
    (∀ i : Nat, i < n → k.valid i = if i = n - 1 then k.lastValid else b) ∧
    ∀ block : Nat, block < k.capacity → block / b < n ∧ block % b < k.valid (block / b)

/-- For every state with READY. LOAD_DRIVE: BAD_VALUE for a drive above 3, a write-protect above 1 or a block
size other than 512 and 4096; WRONG_STATE unless EMPTY or IDLE; otherwise the drive's pages are freed and
leave the clean LRU list, the descriptor taken (fields clamped, timeouts taken down to 100 ms, absent ones
at their defaults; bits 4 to 7 of the presence byte are ignored, the model's reading, log 18) is stored, the
drive is IDLE and DRIVE is raised. UNLOAD_DRIVE: BAD_VALUE, WRONG_STATE unless IDLE; otherwise the pages are
freed, the descriptor discarded, EMPTY, DRIVE raised, and the reply gives the pages freed. The layout of the
replies is the model's (log 16). -/
def Obligations.DrivesAreLoadedAndUnloaded : Prop :=
  (∀ (s : State) (tag drive : Byte) (r : DescriptorRecord), s.ready = true →
    let i := Instr.loadDrive tag drive r
    exec i s = .next (match ident? 4 drive, flag? r.writeProtect with
      | some d, some wp =>
        let x := s.drive d
        let size := r.blockSize.toNat
        let time (bit : Nat) (n : Nat) (default : Nat) : Nat :=
          if r.presence.getLsbD bit then max 100 (min 25500 (n / 100 * 100)) else default
        let k : Descriptor := ⟨size, max 1 (min 4294967295 r.capacity.toNat), wp,
          if r.presence.getLsbD 0 then max 1 (min 256 r.dirtyLimit.toNat) else 64,
          if r.presence.getLsbD 1 then min 4 r.readahead.toNat else 2,
          time 2 r.fillTimeout.toNat 2000, time 3 r.spillTimeout.toNat 5000⟩
        if size ≠ 512 ∧ size ≠ 4096 then s.answered i s .badValue []
        else if x.state ≠ .empty ∧ x.state ≠ .idle then s.answered i s .wrongState []
        else
          let y := { x with descriptor := some k, state := .idle, map := [], driveFlag := true }
          let t := { s.putDriveRecord d y with cleanList := s.cleanList.filter fun p => p.drive ≠ d }
          s.answered i t .ok (put1 1 ++ put2 k.blockSize ++ put4 k.capacity ++ putFlag wp ++
            put2 k.dirtyLimit ++ put1 k.readahead ++ put2 k.fillTimeout ++ put2 k.spillTimeout ++
            put1 k.blocksPerPage ++ put4 k.imagePages ++ put1 k.lastValid)
      | _, _ => s.answered i s .badValue [])) ∧
  ∀ (s : State) (tag drive : Byte), s.ready = true →
    let i := Instr.unloadDrive tag drive
    exec i s = .next (match ident? 4 drive with
      | some d =>
        let x := s.drive d
        let y := { x with descriptor := none, state := .empty, map := [], driveFlag := true }
        let t := { s.putDriveRecord d y with cleanList := s.cleanList.filter fun p => p.drive ≠ d }
        if x.state ≠ .idle then s.answered i s .wrongState []
        else s.answered i t .ok (put1 0 ++ put2 x.map.length)
      | none => s.answered i s .badValue [])

/-- For every state with READY, INSERT is refused BAD_VALUE (drive above 3, channel above 7), WRONG_STATE (not
IDLE) or BOUND_ELSEWHERE (the channel has a drive), in that order and with nothing but the link changed.
Otherwise the drive is INSERTED, bound, change-owed set, eject-requested clear; a MEDIA_IN marker with the
drive number is written; DRIVE is raised; a SUSPENDED port with remote wake enabled enters CONFIGURED and
gives a held completion, stamped with the uptime then (the model's reading, log 35). The reply gives the
drive and port states. The INSERT MEDIA step takes the same path with the run's own channel: MET, also where
the drive is bound to that channel already, and FAILED where the request would be refused. -/
def Obligations.AnInsertBindsAnIdleDrive : Prop :=
  (∀ (s : State) (tag drive ch : Byte), s.ready = true →
    let i := Instr.insert tag drive ch
    exec i s = .next (match ident? 4 drive, ident? 8 ch with
      | some d, some c =>
        if (s.drive d).state ≠ .idle then s.answered i s .wrongState []
        else if (s.boundDrive c).isSome then s.answered i s .boundElsewhere []
        else
          let t := insertedOf d c s
          s.answered i t .ok (put1 2 ++ put1 (t.chan c).port.state.code)
      | _, _ => s.answered i s .badValue [])) ∧
  ∀ (s : State) (c : Channel) (r : Run) (d : DriveNo), act c r s (.insertMedia d) =
    if (s.drive d).bound = some c then (s, .done .met)
    else if (s.drive d).state ≠ .idle ∨ (s.boundDrive c).isSome then (s, .done .failed)
    else (insertedOf d c s, .done .met)

/-- For every state with READY, EJECT refuses a drive above 3 and a force above 1 BAD_VALUE, and EMPTY, IDLE and
DRAINING WRONG_STATE. INSERTED or PRESENT: DRAINING by HOST with the bound port's removal lock clear, by
FORCED with it set and force given, and otherwise EJECT_WAIT with eject-requested set and DRIVE raised.
EJECT_WAIT: DRAINING by FORCED with force, otherwise eject-requested set. The reply gives the drive's state.
The EJECT MEDIA step does the same with reason RECIPE on a drive of its own channel and is FAILED on any
other and where the request is refused. -/
def Obligations.AnEjectActsByStateLockAndForce : Prop :=
  (∀ (s : State) (tag drive force : Byte), s.ready = true →
    let i := Instr.eject tag drive force
    exec i s = .next (match ident? 4 drive, flag? force with
      | some d, some f =>
        match ejectedOf d f .host s with
        | none => s.answered i s .wrongState []
        | some t => s.answered i t .ok (put1 (t.drive d).state.code)
      | _, _ => s.answered i s .badValue [])) ∧
  ∀ (s : State) (c : Channel) (r : Run) (d : DriveNo) (f : Bool), act c r s (.ejectMedia d f) =
    if (s.drive d).bound ≠ some c then (s, .done .failed)
    else match ejectedOf d f .recipe s with
      | none => (s, .done .failed)
      | some t => (t, .done .met)

/-- In a state whose maps are in order and whose wants have different numbers, for a bound drive: the binding,
change-owed, eject-requested and the port's removal lock end; the port's request ends NO MEDIUM and leaves
its list, unless it is the server's own; the drive's POSTED wants leave the table and their FILLING pages
the map; a MEDIA_OUT marker carries the drive and the reason; DRIVE is raised; the drain is tested, and then
the page waiters and the want-entry waiters are served. -/
def Obligations.EntryToDrainingActsInOrder : Prop :=
  ∀ (s : State) (own : Bool) (d : DriveNo) (why : OutReason) (c : Channel),
    (s.drive d).bound = some c → s.MapsOrdered → (s.wants.map (·.number)).Nodup →
    let a := if own then s else endRequest c .noMedium s
    let lost (w : Want) : Bool := decide (w.drive = d) && !w.taken
    let x := a.drive d
    let y := a.chan c
    let b := a.putDriveRecord d { x with
      state := .draining, bound := none, changeOwed := false, ejectRequested := false, driveFlag := true
      map := x.map.filter fun p => !(s.wants.any fun w => lost w && decide (w.page = p.index)) }
    let z := ({ y with port := { y.port with removalLock := false } } : ChannelState).mark s.uptime .mediaOut
      (d.val + 256 * why.code)
    let e := { b.putChan c z with wants := a.wants.filter fun w => !lost w }
    enterDraining own d why s = serveEntries (servePages (testDrain d e))

/-- For every state with READY, SET_PORT_PRESENCE refuses a channel above 7 and a value above 1 BAD_VALUE; off
takes any other state to OFF, leaving the bus where it was on it; on takes OFF to ATTACHED with VBUS
qualified present, else to NO_VBUS; every change raises PORT. VBUS_QUALIFIED, 10 ms after the change began,
takes the raw level (with no timing in progress it changes nothing, the model's choice, log 6): present
takes NO_VBUS to ATTACHED, absent takes a port on the bus to NO_VBUS, leaving the bus. Leaving: the request
leaves its list with no completion, the removal lock and remote wake clear, and an EJECT_WAIT drive has
eject-requested set. BUS_RESET clears remote wake in ATTACHED and takes CONFIGURED and SUSPENDED to
ATTACHED, leaving the bus; CONFIGURATION takes ATTACHED to CONFIGURED; DECONFIGURATION takes CONFIGURED to
ATTACHED, leaving the bus; SUSPEND takes CONFIGURED to SUSPENDED; RESUME takes SUSPENDED to CONFIGURED and
gives a held completion, stamped with the uptime then (the model's reading, log 35); REMOTE_WAKE_SETTING
sets the enable in CONFIGURED. Every change of state raises PORT. In any other port state they change
nothing. -/
def Obligations.PortsMoveByPresenceVbusAndBus : Prop :=
  (∀ (s : State) (tag ch presence : Byte), s.ready = true →
    let i := Instr.setPortPresence tag ch presence
    exec i s = .next (match ident? 8 ch, flag? presence with
      | some c, some on =>
        let x := s.chan c
        let y := { x with port := { x.port with presence := on } }
        let t := s.putChan c y
        let u :=
          if on then
            if x.port.state = .off then
              s.putChan c (({ y with port := { y.port with
                state := if x.port.vbus then .attached else .noVbus } } : ChannelState).flag .port)
            else t
          else if x.port.state = .off then t
          else if x.port.state = .noVbus then
            s.putChan c (({ y with port := { y.port with state := .off } } : ChannelState).flag .port)
          else leftBus c .off t
        s.answered i u .ok (put1 (u.chan c).port.state.code)
      | _, _ => s.answered i s .badValue [])) ∧
  (∀ (s : State) (c : Channel),
    let x := s.chan c
    let p := { x.port with vbus := x.port.vbusRaw, vbusSince := none }
    exec (.vbusQualified c) s = .next (match x.port.vbusSince with
      | none => s
      | some since =>
        let t := s.at (since + 10 * 256000)
        match x.port.vbusRaw, x.port.state with
        | true, .noVbus =>
          t.putChan c (({ x with port := { p with state := .attached } } : ChannelState).flag .port)
        | false, .attached | false, .configured | false, .suspended =>
          leftBus c .noVbus (t.putChan c { x with port := p })
        | _, _ => t.putChan c { x with port := p })) ∧
  ∀ (s : State) (c : Channel) (on : Bool),
    let x := s.chan c
    let p := x.port
    let moves (q : Port) : State := s.putChan c (({ x with port := q } : ChannelState).flag .port)
    let configured : Port := match p.request with
      | some r => match r.wait with
        | some (.held st) => { p with state := .configured, request := none, last := some ⟨st, r.done, s.uptime⟩ }
        | _ => { p with state := .configured }
      | none => { p with state := .configured }
    exec (.busReset c) s = .next (
      if p.state = .attached then s.putChan c { x with port := { p with remoteWake := false } }
      else if p.state = .configured ∨ p.state = .suspended then leftBus c .attached s
      else s) ∧
    exec (.configuration c) s = .next (if p.state = .attached then moves configured else s) ∧
    exec (.deconfiguration c) s = .next (if p.state = .configured then leftBus c .attached s else s) ∧
    exec (.suspend c) s = .next (if p.state = .configured then moves { p with state := .suspended } else s) ∧
    exec (.resume c) s = .next (if p.state = .suspended then moves configured else s) ∧
    exec (.remoteWakeSetting c on) s = .next (
      if p.state = .configured then s.putChan c { x with port := { p with remoteWake := on } } else s)

/-- For each of the seven requests at a CONFIGURED port with none in progress: with no drive bound it completes
NO MEDIUM; with an INSERTED drive MEDIUM CHANGED, change-owed clear, PRESENT, DRIVE raised; with eject-
requested set EJECT REQUESTED, the flag cleared; each with 0 blocks, nothing handed over (the model's own
field, log 22) and nothing else changed. At any other port state, or with a request in progress, the command
changes nothing (the model's choice, log 21). -/
def Obligations.ServerRequestsAreExaminedFirst : Prop :=
  ∀ (s : State) (c : Channel) (i : Instr), serverRequestOf c i = true →
    let x := s.chan c
    let ends (t : State) (st : Completion) : State := t.putChan c { x with port := { x.port with
      handed := ⟨[], none⟩, request := none, last := some ⟨st, 0, s.uptime⟩ } }
    (¬ (x.port.state = .configured ∧ x.port.request = none) → exec i s = .next s) ∧
    (x.port.state = .configured → x.port.request = none →
      (s.boundDrive c = none → exec i s = .next (ends s .noMedium)) ∧
      ∀ d : DriveNo, s.boundDrive c = some d →
        ((s.drive d).state = .inserted → exec i s = .next (ends (s.putDriveRecord d { s.drive d with
          changeOwed := false, state := .present, driveFlag := true }) .mediumChanged)) ∧
        ((s.drive d).state ≠ .inserted → (s.drive d).ejectRequested = true →
          exec i s = .next (ends (s.putDriveRecord d { s.drive d with ejectRequested := false })
            .ejectRequested)))

/-- Where step 4 of R115 is reached: QUERY READY and QUERY CAPACITY complete GOOD, the second handing over
capacity and block size (what is handed over is kept in the model's own field, log 22). REMOVAL LOCK sets or
clears the lock and completes GOOD; off in EJECT_WAIT enters DRAINING by HOST. EJECT completes LOCKED BY
SERVER with the lock set and else enters DRAINING by SERVER, raises SERVER_EJECT and completes GOOD. SYNC
completes GOOD with no dirty page and else waits to its deadline. A read or write is refused (write-protect,
then count above 128 or range above the capacity), completes GOOD with count 0, and is otherwise carried on
page by page until a page makes it wait or all blocks are done, when it completes GOOD. A page read: absent,
a demand (a want entry, then the pool check, then a FILLING page, a POSTED want with this waiter, and
readahead while 5 entries are free and the check passes); FILLING, it waits on the want; otherwise its
blocks are handed over, a CLEAN page becoming the newest of the LRU list. A page written: DIRTY stays so,
SPILLING becomes SPILLING_DIRTY, FILLING makes it wait, CLEAN is converted and an absent page that is
covered whole is taken, each with room under the dirty limit and then the pool check, DIRTY at the tail of
the Spill Queue; an absent page covered in part is demanded. Lacking an entry, a page or room, it joins that
list. A page is taken from the FREE ones, else the oldest CLEAN page is evicted. -/
def Obligations.ServerRequestsAreCarriedOut : Prop :=
  (∀ (s : State) (c : Channel) (d : DriveNo), s.carriesOut c d →
    let k := s.descriptor d
    let p := (s.chan c).port
    let ends (st : Completion) (h : Handed) (lock : Bool) : State :=
      s.setRequest c none h (some ⟨st, 0, s.uptime⟩) lock
    let takes (q : RequestKind) (lock : Bool) : State := s.setRequest c (some (.plain q)) ⟨[], none⟩ p.last lock
    exec (.queryReady c) s = .next (ends .good ⟨[], none⟩ p.removalLock) ∧
    exec (.queryCapacity c) s = .next (ends .good ⟨[], some (k.capacity, k.blockSize)⟩ p.removalLock) ∧
    exec (.removalLock c true) s = .next (ends .good ⟨[], none⟩ true) ∧
    exec (.removalLock c false) s = .next (
      if (s.drive d).state = .ejectWait then
        complete c .good (enterDraining true d .host (takes (.removalLock false) false))
      else ends .good ⟨[], none⟩ false) ∧
    exec (.serverEject c) s = .next (
      if p.removalLock then ends .lockedByServer ⟨[], none⟩ true
      else complete c .good (raiseServerEject d (enterDraining true d .server (takes .eject false)))) ∧
    exec (.sync c) s = .next (
      if (s.drive d).dirtyCount = 0 then ends .good ⟨[], none⟩ p.removalLock
      else
        let due := s.epoch + ((s.now - s.epoch) / 256000 + k.fillTimeout) * 256000
        s.setRequest c (some ⟨.sync, 0, 0, 0, [], some (.spills s.uptime due)⟩) ⟨[], none⟩ p.last
          p.removalLock)) ∧
  (∀ (s : State) (c : Channel) (d : DriveNo) (lba count : Nat), s.carriesOut c d →
    let p := (s.chan c).port
    exec (.readBlocks c lba count) s = .next (
      if 128 < count ∨ (s.descriptor d).capacity < lba + count then
        s.setRequest c none ⟨[], none⟩ (some ⟨.outOfRange, 0, s.uptime⟩) p.removalLock
      else if count = 0 then s.setRequest c none ⟨[], none⟩ (some ⟨.good, 0, s.uptime⟩) p.removalLock
      else carryOn c d (count + 1)
        (s.setRequest c (some ⟨.readBlocks, lba, count, 0, [], none⟩) ⟨[], none⟩ p.last p.removalLock))) ∧
  (∀ (s : State) (c : Channel) (d : DriveNo) (lba count : Nat) (data : List Byte), s.carriesOut c d →
    let p := (s.chan c).port
    exec (.writeBlocks c lba count data) s = .next (
      if (s.descriptor d).writeProtect then
        s.setRequest c none ⟨[], none⟩ (some ⟨.writeProtected, 0, s.uptime⟩) p.removalLock
      else if 128 < count ∨ (s.descriptor d).capacity < lba + count then
        s.setRequest c none ⟨[], none⟩ (some ⟨.outOfRange, 0, s.uptime⟩) p.removalLock
      else if count = 0 then s.setRequest c none ⟨[], none⟩ (some ⟨.good, 0, s.uptime⟩) p.removalLock
      else carryOn c d (count + 1)
        (s.setRequest c (some ⟨.writeBlocks, lba, count, 0, data, none⟩) ⟨[], none⟩ p.last p.removalLock))) ∧
  (∀ (s : State) (c : Channel) (d : DriveNo) (fuel : Nat),
    carryOn c d 0 s = s ∧
    carryOn c d (fuel + 1) s = match s.request c with
      | none => s
      | some r =>
        if r.count ≤ r.done then complete c .good s
        else if (onePageOf c d r s).2 then carryOn c d fuel (onePageOf c d r s).1
        else (onePageOf c d r s).1) ∧
  ∀ (s : State) (d : DriveNo) (n i : Nat),
    takePage s = roomOf s ∧
    readahead d 0 i s = s ∧
    readahead d (n + 1) i s =
      if (s.descriptor d).imagePages ≤ i then s
      else if (s.page d i).isSome then readahead d n (i + 1) s
      else if s.wants.length + 5 ≤ 32 ∧ s.unmet + 1 ≤ s.reclaimable then
        readahead d n (i + 1) (wantedOf d i [] s)
      else s

/-- Where step 4 of R115 is reached, for a well-formed descriptor, 1 to 128 blocks within the capacity, and
every image page that holds one of them present, not FILLING and 4096 bytes long: READ_BLOCKS answers a next
state in which no request is in progress, the last completion is GOOD with all the blocks at the present
uptime, the bytes handed over (the model's own field, log 22) are, block by block in order, the bytes of
each block in its page, and the page maps are as they were. -/
def Obligations.AReadOfCachedPagesHandsTheBlocks : Prop :=
  ∀ (s : State) (c : Channel) (d : DriveNo) (lba count : Nat),
    s.carriesOut c d →
    let k := s.descriptor d
    let b := k.blocksPerPage
    let block (n : Nat) : List Byte := match s.page d (n / b) with
      | none => []
      | some p => (p.data.drop (n % b * k.blockSize)).take k.blockSize
    (k.blockSize = 512 ∨ k.blockSize = 4096) → 1 ≤ count → count ≤ 128 → lba + count ≤ k.capacity →
    (∀ n, lba ≤ n → n < lba + count →
      ∃ p, s.page d (n / b) = some p ∧ p.state ≠ .filling ∧ p.data.length = 4096) →
    ∃ t : State, exec (.readBlocks c lba count) s = .next t ∧
      (t.chan c).port.request = none ∧
      (t.chan c).port.last = some ⟨.good, count, s.uptime⟩ ∧
      (t.chan c).port.handed.blocks = (List.range count).flatMap (fun j => block (lba + j)) ∧
      t.drives = s.drives

/-- Each of the five wait deadlines, where the channel's request waits that way, carries the clock to the
deadline; the channel leaves every list of waiters, and the request completes NOT READY RETRY with the
blocks so far, the completion being held while the port is SUSPENDED; a completion already held stands. The
want, the pages and every other list entry stay. Without such a wait the events change nothing (log 6). -/
def Obligations.WaitsEndAtTheirDeadlines : Prop :=
  ∀ (s : State) (c : Channel),
    let w := (s.request c).bind (·.wait)
    let expires (t : Nat) : State :=
      let a := s.at t
      let b := { a with
        wants := a.wants.map fun (w : Want) => ({ w with waiters := w.waiters.filter (fun x => decide (x ≠ c)) } : Want)
        entryWaiters := a.entryWaiters.filter fun w => decide (w.channel ≠ c)
        pageWaiters := a.pageWaiters.filter fun w => decide (w.channel ≠ c)
        drives := a.drives.map fun (d : Drive) =>
          ({ d with dirtyWaiters := d.dirtyWaiters.filter (fun w => decide (w.channel ≠ c)) } : Drive) }
      let x := a.chan c
      let p : Port := match x.port.request with
        | none => x.port
        | some r => match r.wait with
          | some (.held _) => x.port
          | _ =>
            if x.port.state = .suspended then
              { x.port with request := some { r with wait := some (.held .notReadyRetry) } }
            else { x.port with request := none, last := some ⟨.notReadyRetry, r.done, a.uptime⟩ }
      b.putChan c { x with port := p }
    exec (.syncDeadline c) s = .next (match w with | some (.spills _ t) => expires t | _ => s) ∧
    exec (.wantWaitDeadline c) s = .next (match w with | some (.want _ _ t) => expires t | _ => s) ∧
    exec (.wantEntryDeadline c) s = .next (match s.entryWaiters.find? (fun w => decide (w.channel = c)) with
      | some w => expires w.deadline
      | none => s) ∧
    exec (.pageWaitDeadline c) s = .next (match s.pageWaiters.find? (fun w => decide (w.channel = c)) with
      | some w => expires w.deadline
      | none => s) ∧
    exec (.dirtyWaitDeadline c) s = .next (match s.boundDrive c with
      | none => s
      | some d => match (s.drive d).dirtyWaiters.find? (fun w => decide (w.channel = c)) with
        | some w => expires w.deadline
        | none => s)

/-- For every state with READY and different want numbers. TAKE_WANTS marks the first 8 POSTED wants TAKEN and
replies with their records. FILL: BAD_VALUE for a drive above 3, STALE where no want matches number, drive
and page, BAD_VALUE for another data length; else the page is CLEAN with the data padded by zeros and newest
in the clean LRU list, the want leaves the table, the drain is tested, the page and want-entry waiters are
served, the want's waiters resume. FILL_FAILED (reason 0 or 1, then STALE) and WANT_DEADLINE: the page is
freed, the want leaves, its waiters end MEDIUM ERROR (reason 0) or NOT READY RETRY, the drain is tested and
the waiters are served; a number no want holds changes nothing (the model's choice, log 6). Serving the page
waiters takes the oldest off the list while the pool check passes, and serving the want-entry waiters while
the table has a free entry; each one's request, no longer waiting, is carried on from its page as it then
stands (the model's reading, log 24). A DRAINING drive with no dirty page and no want enters IDLE with DRIVE
raised. -/
def Obligations.WantsAreTakenFilledAndFailed : Prop :=
  (∀ (s : State) (tag : Byte), s.ready = true → (s.wants.map (·.number)).Nodup →
    let i := Instr.takeWants tag
    let taken := (s.wants.filter fun w => !w.taken).take 8
    exec i s = .next (s.answered i
      { s with wants := s.wants.map fun w =>
          if taken.any fun v => decide (v.number = w.number) then { w with taken := true } else w }
      .ok (put1 taken.length ++ taken.flatMap fun w =>
        let k := s.descriptor w.drive
        [w.number] ++ put1 w.drive.val ++ put4 w.page ++ put1 w.valid ++
          put1 (if k.blockSize = 512 then 0 else 1) ++ put2 (w.valid * k.blockSize)))) ∧
  (∀ (s : State) (tag want drive valid size : Byte) (page : Quad) (data : List Byte),
    s.ready = true → data.length ≤ 4150 →
    let i := Instr.fill tag want drive page valid size data
    exec i s = .next (match ident? 4 drive with
      | none => s.answered i s .badValue []
      | some d =>
        match s.wants.find? (fun w => decide (w.number = want ∧ w.drive = d ∧ w.page = page.toNat)) with
        | none => s.answered i s .stale []
        | some w =>
          if data.length ≠ w.valid * (s.descriptor d).blockSize then s.answered i s .badValue []
          else
            let x := s.drive d
            let whole := data ++ List.replicate (4096 - data.length) 0
            let t := { s.putDriveRecord d { x with map := mapPut ⟨w.page, .clean, whole⟩ x.map } with
              cleanList := (s.cleanList.filter fun r => decide (r ≠ ⟨d, w.page⟩)) ++ [⟨d, w.page⟩]
              wants := s.wants.filter fun v => decide (v.number ≠ want) }
            let u := serveEntries (servePages (testDrain d t))
            s.answered i (w.waiters.foldl (fun s c => resumeRequest c s) u) .ok [])) ∧
  (∀ (s : State) (tag want drive reason : Byte) (page : Quad), s.ready = true →
    let i := Instr.fillFailed tag want drive page reason
    exec i s = .next (match ident? 4 drive, flag? reason with
      | some d, some r =>
        match s.wants.find? (fun w => decide (w.number = want ∧ w.drive = d ∧ w.page = page.toNat)) with
        | none => s.answered i s .stale []
        | some w => s.answered i (failedOf w (if r then .notReadyRetry else .mediumError) s) .ok []
      | _, _ => s.answered i s .badValue [])) ∧
  (∀ (s : State) (n : Byte), exec (.wantDeadline n) s = .next (
    match s.wants.find? (fun w => decide (w.number = n)) with
    | none => s
    | some w => failedOf w .notReadyRetry (s.at w.deadline))) ∧
  ∀ (s : State) (c : Channel) (d : DriveNo),
    servePages s = (match s.pageWaiters with
      | [] => s
      | w :: rest =>
        if s.unmet + 1 ≤ s.reclaimable then servePages (resumeRequest w.channel { s with pageWaiters := rest })
        else s) ∧
    serveEntries s = (match s.entryWaiters with
      | [] => s
      | w :: rest =>
        if s.wants.length < 32 then serveEntries (resumeRequest w.channel { s with entryWaiters := rest })
        else s) ∧
    resumeRequest c s = (match s.request c, s.boundDrive c with
      | some r, some e => carryOn c e (r.count + 1) (s.waiting c none)
      | _, _ => s) ∧
    testDrain d s =
      let x := s.drive d
      if x.state = .draining ∧ x.dirtyCount = 0 ∧ ∀ w ∈ s.wants, w.drive ≠ d then
        s.putDriveRecord d { x with state := .idle, driveFlag := true }
      else s

/-- For every state with READY. TAKE_SPILL: EMPTY with no page queued, NO_SPACE with 8 in flight; else the head
leaves the queue, its page is SPILLING, a spill is created with the first free number from the counter on
and its deadline, and the reply carries the header and the valid blocks. SPILL_DONE: BAD_VALUE, STALE; else
STORED makes a SPILLING page CLEAN and newest in the LRU list and a SPILLING_DIRTY one DIRTY at the queue's
tail; RETRY, and SPILL_DEADLINE, make it DIRTY at the head; then R142's effects: the page waiters are served
where the page became CLEAN, the drive's dirty waiters while it has room, a waiting SYNC completes GOOD with
no dirty page left, and the drain is tested. A request served is carried on from its page as it then stands
(the model's reading, log 24). The state in Spill Done's reply is the one before these effects (log 26); a
number not in flight at SPILL_DEADLINE changes nothing (log 6). A number is free that no entry holds, and
the numbers passed over are all held. -/
def Obligations.SpillsAreTakenAndEnded : Prop :=
  (∀ (s : State) (tag : Byte), s.ready = true →
    let i := Instr.takeSpill tag
    match s.spillQueue with
    | [] => exec i s = .next (s.answered i s .empty [])
    | r :: rest =>
      (8 ≤ s.spills.length → exec i s = .next (s.answered i s .noSpace [])) ∧
      (s.spills.length < 8 → ∀ p ∈ s.page r.drive r.index,
        let k := s.descriptor r.drive
        let n := freeNumber (s.spills.map (·.number)) 9 s.spillCounter
        let x := s.drive r.drive
        let v := k.valid r.index
        let due := s.epoch + ((s.now - s.epoch) / 256000 + k.spillTimeout) * 256000
        exec i s = .next (s.answered i
          { s.putDriveRecord r.drive { x with map := mapPut { p with state := .spilling } x.map } with
            spillQueue := rest, spills := s.spills ++ [⟨n, r.drive, r.index, due⟩], spillCounter := n + 1 }
          .ok ([n] ++ put1 r.drive.val ++ put4 r.index ++ put1 v ++
            put1 (if k.blockSize = 512 then 0 else 1) ++ put2 (v * k.blockSize) ++
            p.data.take (v * k.blockSize))))) ∧
  (∀ (s : State) (tag spill drive outcome : Byte) (page : Quad), s.ready = true →
    let i := Instr.spillDone tag spill drive page outcome
    exec i s = .next (match ident? 4 drive, flag? outcome with
      | some d, some retry =>
        match s.spills.find? (fun x => decide (x.number = spill ∧ x.drive = d ∧ x.page = page.toNat)) with
        | none => s.answered i s .stale []
        | some x =>
          let moved := movedOf spill d x.page retry s
          let stored : Bool := !retry && decide ((s.page d x.page).map (·.state) = some .spilling)
          s.answered i (afterSpill d stored moved) .ok
            (match moved.page d x.page with | some p => put1 p.state.code | none => [])
      | _, _ => s.answered i s .badValue [])) ∧
  (∀ (s : State) (n : Byte), exec (.spillDeadline n) s = .next (
    match s.spills.find? (fun x => decide (x.number = n)) with
    | none => s
    | some x => afterSpill x.drive false (movedOf n x.drive x.page true (s.at x.deadline)))) ∧
  (∀ (used : List Byte) (n : Byte) (fuel : Nat), used.length < fuel → fuel ≤ 256 →
    ∃ k : Nat, k < fuel ∧ freeNumber used fuel n = n + BitVec.ofNat 8 k ∧
      n + BitVec.ofNat 8 k ∉ used ∧ ∀ j : Nat, j < k → n + BitVec.ofNat 8 j ∈ used) ∧
  ∀ (s : State) (d : DriveNo) (stored : Bool),
    afterSpill d stored s = testDrain d (testSync d (serveDirty d (if stored then servePages s else s))) ∧
    serveDirty d s = (
      let x := s.drive d
      match x.dirtyWaiters with
      | [] => s
      | w :: rest =>
        if x.dirtyCount < (s.descriptor d).dirtyLimit then
          serveDirty d (resumeRequest w.channel (s.putDriveRecord d { x with dirtyWaiters := rest }))
        else s) ∧
    testSync d s = match (s.drive d).bound with
      | none => s
      | some c => match (s.request c).bind (·.wait) with
        | some (.spills ..) => if (s.drive d).dirtyCount = 0 then complete c .good s else s
        | _ => s

/-- For every state with READY and a well-formed frame. WRITE_RECIPE: BAD_VALUE for a recipe above 7 or a step
refused by R144's table, IN_USE while any channel's run holds the recipe as current or in a return entry;
otherwise (every step of the list having been checked, the model's reading, log 18) the first 16 steps, with
their parameters clamped, replace it and are replied. WRITE_KEY_STRING: BAD_VALUE for a number above 7;
otherwise the first 32 bytes replace the string (none with no bytes) and their number is replied. -/
def Obligations.RecipesAndKeyStringsAreWritten : Prop :=
  (∀ (s : State) (tag recipe : Byte) (records : List StepRecord), s.ready = true → records.length ≤ 462 →
    let i := Instr.writeRecipe tag recipe records
    exec i s = .next (match ident? 8 recipe, records.mapM stepOf with
      | some k, some steps =>
        let held : Bool := (List.finRange 8).any fun c => match (s.chan c).context.run with
          | none => false
          | some r => decide (r.recipe = k) || r.stack.any fun e => decide (e.recipe = k)
        let kept := steps.take 16
        if held then s.answered i s .inUse []
        else s.answered i { s with recipes := s.recipes.set k kept } .ok
          (put1 kept.length ++ kept.flatMap fun x => put1 x.code ++ put4 x.parameters.1 ++ put4 x.parameters.2)
      | _, _ => s.answered i s .badValue [])) ∧
  ∀ (s : State) (tag key : Byte) (bytes : List Byte), s.ready = true → bytes.length ≤ 4159 →
    let i := Instr.writeKeyString tag key bytes
    exec i s = .next (match ident? 8 key with
      | some k => s.answered i { s with keys := s.keys.set k (bytes.take 32) } .ok (put1 (min 32 bytes.length))
      | none => s.answered i s .badValue [])

/-- For every step record that Write Recipe takes, the step it is stored as has a kind number and two
parameters, clamped, whose record is taken as that same step: what Read Recipe replies can be written back
unchanged. The numbers of the choices among the parameters are the model's reading (log 18). A record of
kind 0 or above 21 is refused. -/
def Obligations.StoredStepsReadBackAsThemselves : Prop :=
  ∀ (r : StepRecord),
    (∀ x ∈ stepOf r, stepOf ⟨BitVec.ofNat 8 x.code, BitVec.ofNat 32 x.parameters.1,
      BitVec.ofNat 32 x.parameters.2⟩ = some x ∧ BitVec.ofNat 8 x.code = r.kind) ∧
    (r.kind = 0 ∨ 21 < r.kind.toNat → stepOf r = none)

/-- For every state with READY. RUN_RECIPE: BAD_VALUE, RUN_ACTIVE, LOCKED, WRONG_STATE (empty recipe), in that
order; otherwise the context is RUNNING at step 0 with outcome NONE, the last result NONE, a RUN_START
marker is written and the run goes on; the reply carries the state, recipe, step, waiting step and last
result in either state (its layout is log 16's; in IDLE the bytes of recipe and step are free, log 9).
STOP_RECIPE: BAD_VALUE, WRONG_STATE in an IDLE context, else the run ends STOPPED. Every end: IDLE, RUN
pulses cut short, the key-pass slot emptied (the arbiter then acts, but not while the steps of an end are
carried out, log 33), a RUN_END marker with the result's number, RUN_END raised, the result and its uptime
kept. -/
def Obligations.RunsStartAndStop : Prop :=
  (∀ (s : State) (tag ch recipe : Byte), s.ready = true →
    let i := Instr.runRecipe tag ch recipe
    exec i s = .next (match ident? 8 ch, ident? 8 recipe with
      | some c, some k =>
        let x := s.chan c
        if x.context.run.isSome then s.answered i s .runActive []
        else if x.power.locked then s.answered i s .locked []
        else if s.recipe k = [] then s.answered i s .wrongState []
        else
          let t := startRun c k .host s
          let y := (t.chan c).context
          s.answered i t .ok ((match y.run with
            | some r => [1] ++ put1 r.recipe.val ++ put1 r.step ++ putItem 1 (r.wait.map fun w => put1 w.code)
            | none => [0, t.unstated 1, t.unstated 2, 0, 0]) ++
            y.result.bytes (t.unstated 0))
      | _, _ => s.answered i s .badValue [])) ∧
  (∀ (s : State) (c : Channel) (k : RecipeNo) (source : RunSource), startRun c k source s =
    let r : Run := ⟨k, 0, .none, none, none, 0, [], source, s.uptime⟩
    goOn c r (s.putChan c (({ s.chan c with context := ⟨some r, .none, s.uptime⟩ } : ChannelState).mark s.uptime
      .runStart (k.val + 256 * source.code)))) ∧
  (∀ (s : State) (tag ch : Byte), s.ready = true →
    let i := Instr.stopRecipe tag ch
    exec i s = .next (match ident? 8 ch with
      | none => s.answered i s .badValue []
      | some c =>
        if (s.chan c).context.run.isSome then s.answered i (endRun c .stopped s) .ok []
        else s.answered i s .wrongState [])) ∧
  ∀ (s : State) (c : Channel) (outcome : RunResult), endRun c outcome s =
    let x := s.chan c
    let held (p : Pulse) : Nat := min p.duration ((s.now - p.since) / 256000)
    let x : ChannelState := match x.power.button with
      | some p => if p.origin = Origin.run then x.pulseEnded s.now s.uptime .button (held p) else x
      | none => x
    let x : ChannelState := match x.power.reset with
      | some p => if p.origin = Origin.run then x.pulseEnded s.now s.uptime .reset (held p) else x
      | none => x
    let x := ({ x with tx := { x.tx with slot := none } } : ChannelState).arbitrated s.now
    let x := (x.mark s.uptime .runEnd outcome.argument).flag .runEnd
    s.putChan c { x with context := ⟨none, outcome, s.uptime⟩ }

/-- For every state, channel and run: a step beyond the recipe's last is a RETURN KEEP. WAIT POWER ends MET
where the target holds and else waits. WAIT MATCH ends FAILED on an UNSET unit, consumes a pending hit with
MET, and else waits. WAIT ACTIVITY, WAIT QUIET, WAIT HEARTBEAT and DELAY wait. SEND KEYS ends FAILED with no
string, and installs it otherwise, waiting for a once slot. STOP KEYS empties the slot. After either the
arbiter acts, but not while the steps of an end are carried out (log 33). BRANCH goes by the outcome; CALL
of an empty recipe ends BAD_STEP and else pushes a return entry, dropping the bottom of four; RETURN pops or
ends COMPLETE; END ends with its code. -/
def Obligations.StepsActByTheirKind : Prop :=
  ∀ (s : State) (c : Channel) (r : Run) (on : Bool) (u : UnitNo) (n t : Nat) (k : RecipeNo) (o : StepOutcome),
    let x := s.chan c
    let v := x.units.get u
    let back (pass : Bool) : Taken := match r.stack.reverse with
      | [] => .ends .complete
      | e :: rest => .moves { r with
          recipe := e.recipe, step := e.step, outcome := if pass then r.outcome else e.saved
          stack := rest.reverse }
    takeStep c r s = (match (s.recipe r.recipe)[r.step]? with
      | some step => act c r s step
      | none => (s, back false)) ∧
    act c r s (.waitPower on t) =
      (s, if decide (x.power.state = .on) = on then .done .met else .waits (.power on) (some (t * 100))) ∧
    act c r s (.waitMatch u t) = (
      if v.state = .unset then (s, .done .failed)
      else if v.pending then
        (s.putChan c { x with units := x.units.set u { v with pending := false } }, .done .met)
      else (s, .waits (.unitHit u) (some (t * 100)))) ∧
    act c r s (.waitActivity n t) = (s, .waits (.activity n 0) (some (t * 100))) ∧
    act c r s (.waitQuiet n t) = (s, .waits (.quiet n s.now) (some (t * 100))) ∧
    act c r s (.waitHeartbeat t) = (s, .waits .heartbeat (some (t * 100))) ∧
    act c r s (.delay n) = (s, .waits (.delay (s.now + n * 256000)) none) ∧
    act c r s (.sendKeys k n) = (
      let string := s.keys.get k
      if string = [] then (s, .done .failed)
      else (s.putChan c (({ x with tx := { x.tx with
          slot := some ⟨string, k, n, true, .none, none, false⟩ } } : ChannelState).arbitrated s.now),
        if n = 0 then .waits .keys none else .done .met)) ∧
    act c r s .stopKeys = (s.putChan c
      (({ x with tx := { x.tx with slot := none } } : ChannelState).arbitrated s.now), .done .met) ∧
    act c r s (.branch r.outcome t) = (s, .moves { r with step := t }) ∧
    (o ≠ r.outcome → act c r s (.branch o t) = (s, .moves { r with step := r.step + 1 })) ∧
    act c r s (.call k) = (s,
      if s.recipe k = [] then .ends .badStep
      else .moves { r with
        recipe := k, step := 0, outcome := .none
        stack := (if r.stack.length < 4 then r.stack else r.stack.drop 1) ++
          [⟨r.recipe, r.step + 1, r.outcome⟩] }) ∧
    act c r s (.ret on) = (s, back on) ∧
    act c r s (.finish n) = (s, .ends (.ended n))

/-- For every state, channel and run context, whatever its instant-step count: once the run has gone on, in the
same event, the channel's context is IDLE, or it is RUNNING in a step that waits with the instant-step count
at 0. A run goes on by taking its current step, with 255 less its count of instant steps left to go on from.
A step that waits is recorded with its deadline, the timeout after the present moment, and the count at 0. A
step that ends the run ends it with its result. A step that ends at once records its outcome, the run moves
to the next step, and that is taken in the same event with the count one higher; BRANCH, CALL and RETURN go
on the same way from where they lead. With none left to go on from, at the 256th instant step in a row, the
run ends LOOP. -/
def Obligations.EveryRunWaitsOrEnds : Prop :=
  (∀ (s : State) (c : Channel) (r : Run),
    let t := goOn c r s
    t.run c = none ∨ ((t.run c).bind (·.wait)).isSome = true ∧ (t.run c).map (·.instants) = some 0) ∧
  (∀ (s : State) (c : Channel) (r : Run),
    let x := s.chan c
    goOn c r s = runSteps c (255 - r.instants) r (s.putChan c { x with
      context := { x.context with run := some r } })) ∧
  ∀ (s : State) (c : Channel) (r : Run) (left : Nat),
    let t := (takeStep c r s).1
    let x := t.chan c
    let next (v : Run) : State := match left with
      | 0 => endRun c .loop t
      | n + 1 => runSteps c n { v with instants := v.instants + 1 } t
    runSteps c left r s = match (takeStep c r s).2 with
      | .waits w timeout => t.putChan c { x with context := { x.context with run := some { r with
          wait := some w, instants := 0
          deadline := match timeout with | some ms => some (t.now + ms * 256000) | none => none } } }
      | .ends result => endRun c result t
      | .done outcome => next { r with outcome := outcome, step := r.step + 1 }
      | .moves v => next v

/-- For a run waiting in a step, each event the context is told of ends the step only where the step waits for
it: the power entering or leaving ON, its pulse's or break's end, the completed pass, its unit's hit
(consumed) or becoming UNSET (FAILED), the byte that completes a count (others are counted, or restart a
quiet interval), a heartbeat window at or above SP2. STEP_TIMEOUT at the deadline ends it TIMED_OUT;
DELAY_END and QUIET_INTERVAL_END end theirs MET. The run goes on from the next step with that outcome.
Without such a wait the events change nothing (log 6). -/
def Obligations.AWaitingRunGoesOnWhenToldOrDue : Prop :=
  ∀ (s : State) (c : Channel) (e : RunEvent),
    let goes (t : State) (o : StepOutcome) : State := match (s.chan c).context.run with
      | none => t
      | some r => goOn c { r with wait := none, deadline := none, outcome := o, step := r.step + 1 } t
    let waits (r : Run) (w : RunWait) : State := s.putChan c { s.chan c with
      context := { (s.chan c).context with run := some { r with wait := some w } } }
    tellRun c e s = (match (s.chan c).context.run with
      | none => s
      | some r => match r.wait, e with
        | some (.power a), .power b => if a = b then goes s .met else s
        | some (.pulse a), .pulseEnded b => if a = b then goes s .met else s
        | some .breakSent, .breakEnded => goes s .met
        | some .keys, .passDone => goes s .met
        | some (.unitHit a), .hit b =>
          let x := s.chan c
          let v := { x.units.get a with pending := false }
          if a = b then goes (s.putChan c { x with units := x.units.set a v }) .met else s
        | some (.unitHit a), .unset b => if a = b then goes s .failed else s
        | some (.activity n k), .byte => if n ≤ k + 1 then goes s .met else waits r (.activity n (k + 1))
        | some (.quiet q _), .byte => waits r (.quiet q s.now)
        | some .heartbeat, .window alive => if alive then goes s .met else s
        | _, _ => s) ∧
    exec (.stepTimeout c) s = .next (match (s.run c).bind (·.deadline) with
      | none => s
      | some t => goes (s.at t) .timedOut) ∧
    exec (.delayEnd c) s = .next (match (s.run c).bind (·.wait) with
      | some (.delay t) => goes (s.at t) .met
      | _ => s) ∧
    exec (.quietIntervalEnd c) s = .next (match (s.run c).bind (·.wait) with
      | some (.quiet q since) => goes (s.at (since + q * 256000)) .met
      | _ => s)

/-- For every state with READY. SET_TRIGGER: BAD_VALUE for a channel above 7, a slot above 3, an unknown kind, a
MATCH unit above 3, or a recipe above 7 (behind a presence byte 0 the recipe's byte is not examined, and a
presence byte above 1 is BAD_VALUE: the model's choices, log 37); otherwise the slot is replaced whole
(hold-off clamped to 10 to 3,600 s, limit to 0 to 15, fire count 0, no hold-off, no last fire, ARMED with a
recipe and OFF with none). REARM_TRIGGER: BAD_VALUE, WRONG_STATE for OFF, else fire count 0 and ARMED, hold-
off and last fire kept. TRIGGER_HOLDOFF_EXPIRY carries the clock to the slot's moment and its hold-off
remaining is 0; with none running it changes nothing (the model's choice, log 6). The replies' layout and
codes are the model's reading (log 16), and the unit of a kind other than MATCH is a free byte (log 9). -/
def Obligations.SlotsAreSetRearmedAndHeldOff : Prop :=
  (∀ (s : State) (tag ch slot event unit given recipe : Byte) (holdoff : Half) (limit : Byte), s.ready = true →
    let i := Instr.setTrigger tag ch slot event unit given recipe holdoff limit
    let kind : Option TriggerEvent := match event.toNat with
      | 0 => some .hang
      | 1 => some .fast
      | 2 => some .spontaneousOff
      | 3 => (ident? 4 unit).map .matched
      | _ => none
    let named : Option (Option RecipeNo) := match given.toNat with
      | 0 => some none
      | 1 => (ident? 8 recipe).map some
      | _ => none
    exec i s = .next (match ident? 8 ch, ident? 4 slot, kind, named with
      | some c, some n, some e, some r =>
        let x := s.chan c
        let v : TriggerSlot := ⟨e, r, max 10 (min 3600 holdoff.toNat), min 15 limit.toNat, 0, none, none,
          if r = none then .off else .armed⟩
        s.answered i (s.putChan c { x with slots := x.slots.set n v }) .ok
          (e.bytes (s.unstated 0) ++ putRecipe r ++ put2 v.holdoff ++ put1 v.limit ++ put1 v.state.code)
      | _, _, _, _ => s.answered i s .badValue [])) ∧
  (∀ (s : State) (tag ch slot : Byte), s.ready = true →
    let i := Instr.rearmTrigger tag ch slot
    exec i s = .next (match ident? 8 ch, ident? 4 slot with
      | some c, some n =>
        let x := s.chan c
        let v := x.slots.get n
        let w := { v with fires := 0, state := .armed }
        if v.state = .off then s.answered i s .wrongState []
        else s.answered i (s.putChan c { x with slots := x.slots.set n w }) .ok [1]
      | _, _ => s.answered i s .badValue [])) ∧
  ∀ (s : State) (c : Channel) (n : SlotNo),
    let x := s.chan c
    let v := x.slots.get n
    exec (.triggerHoldoffExpiry c n) s = .next (match v.holdoffEnd with
      | none => s
      | some due => (s.at due).putChan c { x with slots := x.slots.set n { v with holdoffEnd := none } })

/-- For every event, channel and state: the first slot, in the order 0 to 3, that is ARMED for that event with a
recipe that is not empty, its hold-off over (at its very moment an event taken before its expiry finds it
above 0, R168), the channel FREE and its context IDLE, fires: its count rises (to 255 at most), the last
fire is stamped, the hold-off starts, at the limit it is SPENT and TRIGGER is raised, and its run starts
with the slot as source. With no such slot the event changes nothing. -/
def Obligations.TheFirstSlotThatMayFires : Prop :=
  ∀ (s : State) (c : Channel) (e : TriggerEvent),
    let x := s.chan c
    let fires (n : SlotNo) : Option RecipeNo :=
      let v := x.slots.get n
      if v.state = .armed ∧ v.event = e ∧ (∀ due ∈ v.holdoffEnd, due < s.now) ∧ x.power.locked = false ∧
          x.context.run = none then v.recipe.filter fun r => !(s.recipe r).isEmpty
      else none
    deliver c e s = (match (List.finRange 4).find? (fun n => (fires n).isSome) with
      | none => s
      | some n =>
        let v := x.slots.get n
        let count := min 255 (v.fires + 1)
        let spent : Bool := decide (v.limit ≠ 0 ∧ v.limit ≤ count)
        let w : TriggerSlot := { v with
          fires := count, lastFire := some s.uptime, holdoffEnd := some (s.now + v.holdoff * 1000 * 256000)
          state := if spent then .spent else .armed }
        let y : ChannelState := { x with slots := x.slots.set n w }
        match fires n with
        | none => s
        | some r => startRun c r (.slot n) (s.putChan c (if spent then y.flag .trigger else y)))

/-- For every state with READY. READ_CHANGES replies OK with the twelve flags of each channel, the two of each
drive, RESTARTED, WANTS_POSTED, SPILLS_WAITING as they stand, and LNK_ATTN after the clearing; every flag is
then clear and nothing else but the link is changed. SET_NOTICE_MASK refuses a field above 1 BAD_VALUE and
otherwise replaces the seventeen enables, eight channel and four drive selects, replying with them and
LNK_ATTN. LNK_ATTN is asserted exactly while an enabled flag of a selected channel or drive, RESTARTED
enabled, or an enabled condition holds. That a true condition is coded 1 is the model's reading (log 16). -/
def Obligations.ChangesAreReadOnceAndMasked : Prop :=
  (∀ (s : State) (tag : Byte), s.ready = true →
    let i := Instr.readChanges tag
    let t : State := { s with
      channels := s.channels.map fun x => { x with flags := Table.replicate 12 false }
      drives := s.drives.map fun x => { x with driveFlag := false, serverEjectFlag := false }
      restarted := false }
    exec i s = .next (s.answered i t .ok
      (((List.finRange 8).flatMap fun c => (List.finRange 12).flatMap fun k => putFlag ((s.chan c).flags.get k)) ++
        ((List.finRange 4).flatMap fun d => putFlag (s.drive d).driveFlag ++ putFlag (s.drive d).serverEjectFlag) ++
        putFlag s.restarted ++ putFlag (s.wants.any fun w => !w.taken) ++ putFlag (!s.spillQueue.isEmpty) ++
        putFlag t.attn))) ∧
  (∀ (s : State) (tag : Byte) (fields : Table 29 Byte), s.ready = true →
    let i := Instr.setNoticeMask tag fields
    let on (k : Nat) : Bool := decide (fields.entries.getD k 0 = 1)
    let m : NoticeMask := ⟨⟨(List.range 17).map on, by simp⟩,
      ⟨(List.range 8).map fun k => on (17 + k), by simp⟩, ⟨(List.range 4).map fun k => on (25 + k), by simp⟩⟩
    let t := { s with mask := m }
    exec i s = .next (
      if fields.entries.all fun b => decide (b = 0 ∨ b = 1) then s.answered i t .ok (fields.entries ++ putFlag t.attn)
      else s.answered i s .badValue [])) ∧
  ∀ s : State, s.attn = true ↔
    (∃ c : Channel, s.mask.channels.get c = true ∧
      ∃ k : Fin 12, (s.chan c).flags.get k = true ∧ s.mask.enables.get (k.castLE (by decide)) = true) ∨
    (∃ d : DriveNo, s.mask.drives.get d = true ∧
      ((s.drive d).driveFlag = true ∧ s.mask.enables.get 12 = true ∨
        (s.drive d).serverEjectFlag = true ∧ s.mask.enables.get 13 = true)) ∨
    s.restarted = true ∧ s.mask.enables.get 14 = true ∨
    (∃ w ∈ s.wants, w.taken = false) ∧ s.mask.enables.get 15 = true ∨
    s.spillQueue ≠ [] ∧ s.mask.enables.get 16 = true

/-- For every state and every run of bytes after 0x5A that fails one of checks 2 to 5, BAD_FRAME answers a next
state in which the status byte and one zero for each byte were shifted out and REJECT is set; the replies
and everything outside the link are as they were. -/
def Obligations.BadFramesOnlySetReject : Prop :=
  ∀ (s : State) (bytes : List Byte), readFrame bytes = none →
    exec (.badFrame bytes) s = .next (s.withLink (s.rejected bytes.length))

/-- For every state and number of bytes: REPLY_READ shifts out the status byte (READY, REPLY, ATTN, REJECT in
bits 0 to 3), then the oldest reply's bytes and zeros beyond its CRC, or those of a reply of kind 0, tag 0,
OK and no body from an empty queue; a reply shifted out whole is removed, and REJECT shown is cleared. A
transaction cut within its first byte changes nothing; any other shifts out the status byte and zeros. First
bytes 0x5A and 0xA5 in LINK_OTHER_TRANSACTION are log 19's. -/
def Obligations.RepliesAreReadOldestFirst : Prop :=
  ∀ (s : State) (n : Nat),
    let bit (b : Bool) (k : Byte) : Byte := if b then k else 0
    let status : Byte := bit (decide (s.link.replies.length < 8)) 1 + bit (decide (s.link.replies ≠ [])) 2 +
      bit s.attn 4 + bit s.link.reject 8
    let out (rest : List Byte) (left : List Reply) : State :=
      s.withLink { s.link with replies := left, reject := false, shiftedOut := status :: rest }
    let frame : List Byte := match s.link.replies with
      | [] => (⟨0, 0, .ok, []⟩ : Reply).bytes
      | r :: _ => r.bytes
    let left : List Reply := if frame.length ≤ n then s.link.replies.drop 1 else s.link.replies
    exec (.replyRead n) s = .next (out (frame.take n ++ List.replicate (n - frame.length) 0) left) ∧
    exec (.linkOtherTransaction none n) s = .next s ∧
    ∀ b : Byte, b ≠ 0x5A → b ≠ 0xA5 →
      exec (.linkOtherTransaction (some b) n) s = .next (out (List.replicate n 0) s.link.replies)

/-- For every host request that is well formed, with every field at every value of its width: the bytes of its
frame (kind, tag, body length, body, CRC-16) pass the checks of R177 and are read as that request, and a
BAD_FRAME command that carries them acts as the request itself in every state (log 19). Conversely, bytes
that are read as a request are exactly that request's frame, and the request is well formed: a wrong CRC,
length, kind or body shape is read as none. -/
def Obligations.FramesReadBackAsTheirRequests : Prop :=
  (∀ (i : Instr) (f : RequestFrame), i.wellFormed = true → i.request? = some f →
    readFrame f.bytes = some i ∧ ∀ s : State, exec (.badFrame f.bytes) s = exec i s) ∧
  ∀ (bytes : List Byte) (i : Instr), readFrame bytes = some i →
    i.wellFormed = true ∧ ∃ f : RequestFrame, i.request? = some f ∧ f.bytes = bytes

/-- For every well-formed host request. With READY: exec answers a next state whose reply queue is the queue
before it (the empty queue for a Part Reset, whose reply is its only entry) with exactly one reply, of the
request's kind and tag, at the newest end, and REJECT is clear. Without READY the request is ignored: REJECT
is set, zeros were shifted out after the status byte, and nothing else has changed. An event that is no
transaction and no power-on reset leaves the link as it was. -/
def Obligations.EachRequestIsAnsweredOnceOrIgnored : Prop :=
  ∀ (i : Instr) (s : State),
    (∀ f ∈ i.request?, i.wellFormed = true →
      (s.ready = true → ∃ (t : State) (st : Status) (body : List Byte), exec i s = .next t ∧
        t.link.replies = (if f.kind = 0x02 then [] else s.link.replies) ++ [⟨f.kind, f.tag, st, body⟩] ∧
        t.link.reject = false ∧ t.link.shiftedOut = s.statusByte :: List.replicate (6 + f.body.length) 0) ∧
      (s.ready = false → exec i s = .next (s.withLink (s.rejected (6 + f.body.length))))) ∧
    (i.request? = none → (∀ l, i ≠ .badFrame l) → (∀ n, i ≠ .replyRead n) →
      (∀ b n, i ≠ .linkOtherTransaction b n) → (∀ p, i ≠ .powerOnReset p) →
      ∃ t : State, exec i s = .next t ∧ t.link = s.link)

/-- For every state with READY: the fourteen requests that only read (power, baud, heartbeat, console, transmit,
pool, drive, port, run and trigger status; Read Match, Recipe, Key String; Identify) answer a next state in
which only the link differs, by one reply OK, or BAD_VALUE where the channel, unit, drive, recipe or key
string does not exist. The reply's body is the record that the tables of R32, R40, R56, R74, R86, R99, R122,
R123, R163 and 10.1 list, field by field in their order (the body of Power Status stands in
PowerStatusReportsTheRecord). A recipe is read back as its step count and its steps, a key string as its
length and its bytes. Choices are numbered from 0 in the order their rule lists them. Identify's body is
part code 0x0840, revision 1, 8 channels, 4 drives, 512 pages, 32 want entries, 8 recipes and the uptime.
Where the spec fixes no layout the model's reading stands (log 16), with remaining times rounded up (log 8)
and free bytes (log 9). -/
def Obligations.StatusRequestsChangeNothing : Prop :=
  (∀ (s : State) (tag a b : Byte), s.ready = true →
    let replies (i : Instr) (body : Option (List Byte)) : Prop := exec i s = .next (match body with
      | none => s.answered i s .badValue []
      | some l => s.answered i s .ok l)
    let c := ident? 8 a
    let d := ident? 4 a
    (∃ body : List Byte, replies (.powerStatus tag a) (c.map fun _ => body)) ∧
    replies (.baudStatus tag a) (c.map fun c => (s.chan c).finder.record s.now (s.unstated 0)) ∧
    replies (.heartbeatStatus tag a) (c.map fun c =>
      (s.chan c).watch.record s.now (decide ((s.chan c).power.state = .on))) ∧
    replies (.consoleStatus tag a) (c.map fun c => (s.chan c).storeRecord) ∧
    replies (.transmitStatus tag a) (c.map fun c => (s.chan c).txRecord s) ∧
    replies (.readMatch tag a b) (match c, ident? 4 b with
      | some c, some u => some ((s.chan c).units.get u).record
      | _, _ => none) ∧
    replies (.poolStatus tag) (some s.poolRecord) ∧
    replies (.driveStatus tag a) (d.map s.driveRecord) ∧
    replies (.portStatus tag a) (c.map s.portRecord) ∧
    replies (.readRecipe tag a) (c.map fun k => put1 (s.recipe k).length ++
      (s.recipe k).flatMap fun x => put1 x.code ++ put4 x.parameters.1 ++ put4 x.parameters.2) ∧
    replies (.readKeyString tag a) (c.map fun k => put1 (s.keys.get k).length ++ s.keys.get k) ∧
    replies (.runStatus tag a) (c.map s.runRecord) ∧
    replies (.triggerStatus tag a) (c.map fun c => (List.finRange 4).flatMap fun n => s.slotRecord c n) ∧
    replies (.identify tag) (some ([0x08, 0x40, 1, 8, 4, 0x02, 0x00, 32, 8] ++ s.uptime.bytes))) ∧
  ([FinderState.hunting, .locked, .fixed].map (·.code) = [0, 1, 2] ∧
    [WatchState.idle, .watching, .hung].map (·.code) = [0, 1, 2] ∧
    [UnitState.unset, .disarmed, .armed, .hit].map (·.code) = [0, 1, 2, 3] ∧
    [DriveState.empty, .idle, .inserted, .present, .ejectWait, .draining].map (·.code) = [0, 1, 2, 3, 4, 5] ∧
    [PortState.off, .noVbus, .attached, .configured, .suspended].map (·.code) = [0, 1, 2, 3, 4] ∧
    [Completion.good, .noMedium, .mediumChanged, .ejectRequested, .outOfRange, .writeProtected, .notReadyRetry,
      .mediumError, .lockedByServer].map (·.code) = [0, 1, 2, 3, 4, 5, 6, 7, 8] ∧
    [StepOutcome.none, .met, .timedOut, .failed].map (·.code) = [0, 1, 2, 3] ∧
    [RunResult.none, .complete, .ended 7, .stopped, .locked, .reset, .loop, .badStep].map (·.code) =
      [0, 1, 2, 3, 4, 5, 6, 7] ∧
    [TriggerEvent.hang, .fast, .spontaneousOff, .matched 0].map (·.code) = [0, 1, 2, 3] ∧
    [SlotState.off, .armed, .spent].map (·.code) = [0, 1, 2])

/-- POWER_ON_RESET answers a next state given whole, from every state: each channel's record is the one R18,
R33, 2.3.4, R58, R59, R75, R87, R124, R164 and R170 give with its pins as the command carries them (log 4;
OFF with PEN asserted, power-good LOW and timed where the raw level is high, HUNTING at 115200, limits 8 and
32, units UNSET, the port ATTACHED or NO_VBUS, no request, remote wake clear, no run, slots OFF with no
hold-off, no flag); drives EMPTY; tables, queues and lists empty, uptime 0, RESTARTED set, enables off, no
reply, REJECT clear. The receive line's filtered level is the sampled one (the model's choice, log 11). The
clock, the count of replies formed and waiting commands go on (log 28); fields with no meaning after it are
log 15's, and the model's own fields are empty or false (handed, log 22; settling, log 33). PART_RESET with
READY answers a next state given whole: the same values, but that each channel keeps its power state, hold-
off, pending supply, lock and every debounce in progress, its raw, filtered and qualified levels, the held
edge and the run in progress of the receive line, Sn_RTR, VBUS, remote wake, the last completion, what was
handed over (log 22) and a port on the bus; active pulses are cut short with their windows started; a
request in progress ends NO MEDIUM, held while SUSPENDED, at uptime 0 (log 23), and a held completion
stands; a run ended shows RESET; its reply is the only one. A power-good timing longer than the restored 20
ms is kept (log 30). -/
def Obligations.ResetsLeaveTheirValues : Prop :=
  (∀ (s : State) (pins : Table 8 Pins), ∃ t : State, exec (.powerOnReset pins) s = .next t ∧ clearedOf t ∧
    t.now = s.now ∧ t.epoch = s.now ∧ t.uptime = 0 ∧ t.link = ⟨[], false, [], s.link.formed⟩ ∧ t.pending = s.pending ∧
    ∀ c : Channel, t.chan c = poweredOn s.now (pins.get c)) ∧
  ∀ (s : State) (tag : Byte), s.ready = true → ∃ t : State, exec (.partReset tag) s = .next t ∧ clearedOf t ∧
    t.now = s.now ∧ t.epoch = s.now ∧ t.uptime = 0 ∧
    t.link = ⟨[⟨0x02, tag, .ok, []⟩], false, s.statusByte :: List.replicate 6 0, s.link.formed + 1⟩ ∧
    t.pending = s.pending ∧ ∀ c : Channel, t.chan c = partResetOf s.now (s.chan c)

/-- For every state with READY, CHANNEL_RESET refuses a channel above 7 BAD_VALUE and otherwise replaces that
channel's record: active pulses cut short with their windows started, the finder HUNTING (FIXED kept) at its
reset rate with a fresh window, the watch restarted, the store, the queue, the slot, the break and the hold
empty, units DISARMED or UNSET with hits 0, a run ended RESET with RUN_END raised, SPENT slots ARMED and
fire counts 0 (the model's own field settling is false, log 33). Power, lock, settings, limits, patterns,
the port and the other flags are kept; no other channel or drive is touched, but that page waiters are then
served from the freed pages. -/
def Obligations.AChannelResetKeepsPowerAndSettings : Prop :=
  ∀ (s : State) (tag ch : Byte), s.ready = true →
    let i := Instr.channelReset tag ch
    exec i s = .next (match ident? 8 ch with
      | none => s.answered i s .badValue []
      | some c =>
        let x := s.chan c
        let f := x.finder
        let w := x.watch
        let fixed := decide (f.state = .fixed)
        let watching := w.settings.enable && decide (x.power.state = .on)
        let ended := x.context.run.isSome
        let y : ChannelState := { x with
          power := { x.power with
            button := none, reset := none
            buttonWindowEnd := if x.power.button.isSome then s.now + 30000 * 256000 else x.power.buttonWindowEnd
            resetWindowEnd := if x.power.reset.isSome then s.now + 30000 * 256000 else x.power.resetWindowEnd }
          finder := { f with
            state := if fixed then .fixed else .hunting
            lastLocked := 7, divisor := if fixed then divisorOf f.fixedRate else 2222
            candidate := none, agreement := 0, last := ⟨0, none, 0, .none, none⟩
            windowStart := s.now, windowLength := f.settings.window, q := 0, m := none, f := 0 }
          watch := { w with
            state := if watching then .watching else .idle
            count := 0, held := 0, heldAt := 0, lowStreak := 0, fastRaised := false
            windowStart := if watching then s.now else w.windowStart
            windowLength := if watching then w.settings.window else w.windowLength }
          framing := if f.rxdLevel then .waitStart else .waitHigh
          store := ⟨[], 0, 0, [], x.store.floor, x.store.ceiling⟩
          tx := { x.tx with char := none, queue := [], slot := none, brk := none, hold := none, settling := false }
          units := x.units.map fun u => { u with
            state := if u.state = .unset then .unset else .disarmed, hits := 0, pending := false, progress := 0 }
          context := if ended then ⟨none, .reset, s.uptime⟩ else x.context
          slots := x.slots.map fun v => { v with
            state := if v.state = .spent then .armed else v.state, fires := 0 } }
        s.answered i (servePages (s.putChan c (if ended then y.flag .runEnd else y))) .ok [])

/-- In every state in which each LOCKED channel has its button and reset lines released, no pending supply and
no RUNNING run, every step, whatever command is at the front of the queue, leaves a state in which that
holds again. -/
def Obligations.TheLockLawIsKept : Prop :=
  ∀ s t : State, s.LockLaw → step s = .next t → t.LockLaw

/-- In every state in which the reply queue holds at most 8 replies, every marker list at most 64 markers, every
injection queue at most 512 bytes, the Want Table at most 32 wants and the spill table at most 8 spills,
with the numbers of the wants and those of the spills all different, every step leaves a state in which all
of that holds. Each of the following is kept by every step on its own: every store's limits lie in R48's
ranges, its pages stand in a row from oldest with all but the newest full and next at their end, and its
markers stand from oldest to next in an order that does not decrease (R45, R51); every RUNNING context waits
in a step with at most 4 return entries (R147); and the model's own field settling is clear (log 33). The
laws of R103, R109 and R136 stand in TheCacheLawIsKept. -/
def Obligations.TheBoundsAreKept : Prop :=
  (∀ s t : State, s.RepliesFit ∧ s.ConsolesFit ∧ s.TablesFit → step s = .next t →
    t.RepliesFit ∧ t.ConsolesFit ∧ t.TablesFit) ∧
  (∀ s t : State, s.StoresLaw → step s = .next t → t.StoresLaw) ∧
  (∀ s t : State, s.RunsLaw → step s = .next t → t.RunsLaw) ∧
  ∀ s t : State, s.Settled → step s = .next t → t.Settled

/-- In every state in which the page maps are in order and hold whole pages, the tables are within their bounds,
each CLEAN page stands exactly once in the clean LRU list, each DIRTY page once in the Spill Queue, each
SPILLING or SPILLING_DIRTY page has one spill in flight and each FILLING page one want, no list or table
names another page, and the drives obey their laws, every step leaves a state in which all of that holds.
The drives' laws: descriptors are as R101 takes them (block size 512 or 4096, capacity at least 1 and below
2^32, dirty limit 1 to 256, readahead 0 to 4, timeouts 100 to 25,500 ms in steps of 100) and EMPTY alone has
none; a drive is bound exactly in INSERTED, PRESENT and EJECT_WAIT, and no channel has two (R103); an EMPTY
drive has no pages and an IDLE one only CLEAN pages, and neither has wants or spills (R109); a want's valid
blocks are its page's (R129); the dirty count is within the dirty limit (R136). -/
def Obligations.TheCacheLawIsKept : Prop :=
  ∀ s t : State, s.TablesFit ∧ s.CacheLaw ∧ s.DrivesLaw → step s = .next t → t.TablesFit ∧ t.CacheLaw ∧ t.DrivesLaw

/-- In every state that meets the cache law and the drives' laws, whose floors lie in 2 to 32 and ceilings from
the floor to 64 with every store in its form, whose capture lists and page maps hold at most 512 pages
together and whose free plus CLEAN pages are at least the unmet floor total, every step leaves a state in
which the limits, the stores' form and the last two hold again. -/
def Obligations.TheFloorGuaranteeIsKept : Prop :=
  ∀ s t : State, s.TablesFit ∧ s.CacheLaw ∧ s.DrivesLaw ∧ s.StoresLaw ∧ s.PoolLaw → step s = .next t →
    t.StoresLaw ∧ t.PoolLaw

/-- State.reset meets the premises of the invariants that every step keeps (the lock law, the bounds, the laws
of stores, runs and drives, the cache law and the floor guarantee), with every input pin sampled low (the
model's choice, log 4). -/
def Obligations.ResetMeetsTheInvariants : Prop :=
  State.reset.LockLaw ∧ State.reset.RepliesFit ∧ State.reset.ConsolesFit ∧ State.reset.TablesFit ∧
    State.reset.StoresLaw ∧ State.reset.RunsLaw ∧ State.reset.Settled ∧
    State.reset.CacheLaw ∧ State.reset.DrivesLaw ∧ State.reset.PoolLaw
end

