-- ==== Sys2Proof/Laws/State.lean ====
section
/-! SUPPORT. The laws of the tables and of the record updates: reading an entry after one was written, and
each field of the state after each update of `Machine/Ops.lean`. Every update of one channel's record is
brought to `modChan`, and two of the same channel to one. -/

namespace Sys2Proof

/-! ## Tables -/

namespace Table

variable {n : Nat} {α β : Type}

@[ext] theorem ext_get {t u : Table n α} (h : ∀ i, t.get i = u.get i) : t = u := by
  obtain ⟨a, ha⟩ := t
  obtain ⟨b, hb⟩ := u
  have : a = b := by
    apply List.ext_getElem (by rw [ha, hb])
    intro i h1 _
    have := h ⟨i, by omega⟩
    simpa [get] using this
  subst this
  rfl

@[simp] theorem get_set_same (t : Table n α) (i : Fin n) (x : α) : (t.set i x).get i = x := by
  simp [get, set]

@[simp] theorem get_set_ne (t : Table n α) {i j : Fin n} (x : α) (h : j ≠ i) :
    (t.set i x).get j = t.get j := by
  have : ¬ i.val = j.val := fun e => h (Fin.ext e.symm)
  simp [get, set, this]

theorem get_set (t : Table n α) (i j : Fin n) (x : α) :
    (t.set i x).get j = if j = i then x else t.get j := by
  by_cases h : j = i
  · subst h; simp
  · simp [h]

@[simp] theorem set_set (t : Table n α) (i : Fin n) (x y : α) : (t.set i x).set i y = t.set i y := by
  ext j
  by_cases h : j = i
  · subst h; simp
  · simp [h]

@[simp] theorem set_get (t : Table n α) (i : Fin n) : t.set i (t.get i) = t := by
  ext j
  by_cases h : j = i
  · subst h; simp
  · simp [h]

@[simp] theorem get_replicate (x : α) (i : Fin n) : (replicate n x).get i = x := by
  simp [get, replicate]

@[simp] theorem get_map (f : α → β) (t : Table n α) (i : Fin n) : (t.map f).get i = f (t.get i) := by
  simp [get, map]

end Table

namespace Machine

/-! ## One channel's record -/

variable (s : State) (c : Channel) (d : DriveNo)

@[simp] theorem modChan_now (f) : (modChan c f s).now = s.now := rfl
@[simp] theorem modChan_epoch (f) : (modChan c f s).epoch = s.epoch := rfl
@[simp] theorem modChan_drives (f) : (modChan c f s).drives = s.drives := rfl
@[simp] theorem modChan_cleanList (f) : (modChan c f s).cleanList = s.cleanList := rfl
@[simp] theorem modChan_pageWaiters (f) : (modChan c f s).pageWaiters = s.pageWaiters := rfl
@[simp] theorem modChan_wants (f) : (modChan c f s).wants = s.wants := rfl
@[simp] theorem modChan_wantCounter (f) : (modChan c f s).wantCounter = s.wantCounter := rfl
@[simp] theorem modChan_entryWaiters (f) : (modChan c f s).entryWaiters = s.entryWaiters := rfl
@[simp] theorem modChan_spillQueue (f) : (modChan c f s).spillQueue = s.spillQueue := rfl
@[simp] theorem modChan_spills (f) : (modChan c f s).spills = s.spills := rfl
@[simp] theorem modChan_spillCounter (f) : (modChan c f s).spillCounter = s.spillCounter := rfl
@[simp] theorem modChan_recipes (f) : (modChan c f s).recipes = s.recipes := rfl
@[simp] theorem modChan_keys (f) : (modChan c f s).keys = s.keys := rfl
@[simp] theorem modChan_restarted (f) : (modChan c f s).restarted = s.restarted := rfl
@[simp] theorem modChan_mask (f) : (modChan c f s).mask = s.mask := rfl
@[simp] theorem modChan_link (f) : (modChan c f s).link = s.link := rfl
@[simp] theorem modChan_pending (f) : (modChan c f s).pending = s.pending := rfl

@[simp] theorem modChan_epoch_uptime (f) : (modChan c f s).uptime = s.uptime := rfl

@[simp] theorem chan_modChan (f) : (modChan c f s).chan c = f (s.chan c) := by simp [State.chan, modChan]

@[simp] theorem chan_modChan_ne (f) {c' : Channel} (h : c' ≠ c) : (modChan c f s).chan c' = s.chan c' := by
  simp [State.chan, modChan, h]

@[simp] theorem modChan_modChan (f g) : modChan c f (modChan c g s) = modChan c (fun x => f (g x)) s := by
  simp [modChan, State.chan]

@[simp] theorem drive_modChan (f) : (modChan c f s).drive d = s.drive d := rfl

@[simp] theorem recipe_modChan (f) (k : RecipeNo) : (modChan c f s).recipe k = s.recipe k := rfl

/-! ### The updates of one block of a channel -/

@[simp] theorem modPower_eq (f) : modPower c f s = modChan c (fun x => { x with power := f x.power }) s := rfl
@[simp] theorem modFinder_eq (f) : modFinder c f s = modChan c (fun x => { x with finder := f x.finder }) s := rfl
@[simp] theorem modWatch_eq (f) : modWatch c f s = modChan c (fun x => { x with watch := f x.watch }) s := rfl
@[simp] theorem setFraming_eq (v) : setFraming c v s = modChan c (fun x => { x with framing := v }) s := rfl
@[simp] theorem modStore_eq (f) : modStore c f s = modChan c (fun x => { x with store := f x.store }) s := rfl
@[simp] theorem modTx_eq (f) : modTx c f s = modChan c (fun x => { x with tx := f x.tx }) s := rfl
@[simp] theorem modUnit_eq (u f) :
    modUnit c u f s = modChan c (fun x => { x with units := x.units.set u (f (x.units.get u)) }) s := rfl
@[simp] theorem modPort_eq (f) : modPort c f s = modChan c (fun x => { x with port := f x.port }) s := rfl
@[simp] theorem modContext_eq (f) :
    modContext c f s = modChan c (fun x => { x with context := f x.context }) s := rfl
@[simp] theorem modSlot_eq (i f) :
    modSlot c i f s = modChan c (fun x => { x with slots := x.slots.set i (f (x.slots.get i)) }) s := rfl
@[simp] theorem raise_eq (k) :
    raise c k s = modChan c (fun x => { x with flags := x.flags.set k.index true }) s := rfl
@[simp] theorem marker_eq (k a) :
    marker c k a s = modChan c (fun x => { x with
      store := { x.store with markers := pushMarker ⟨k, x.store.next, s.uptime, a⟩ x.store.markers } }) s := rfl

/-! ## One drive's record -/

@[simp] theorem modDrive_now (f) : (modDrive d f s).now = s.now := rfl
@[simp] theorem modDrive_epoch (f) : (modDrive d f s).epoch = s.epoch := rfl
@[simp] theorem modDrive_channels (f) : (modDrive d f s).channels = s.channels := rfl
@[simp] theorem modDrive_cleanList (f) : (modDrive d f s).cleanList = s.cleanList := rfl
@[simp] theorem modDrive_pageWaiters (f) : (modDrive d f s).pageWaiters = s.pageWaiters := rfl
@[simp] theorem modDrive_wants (f) : (modDrive d f s).wants = s.wants := rfl
@[simp] theorem modDrive_wantCounter (f) : (modDrive d f s).wantCounter = s.wantCounter := rfl
@[simp] theorem modDrive_entryWaiters (f) : (modDrive d f s).entryWaiters = s.entryWaiters := rfl
@[simp] theorem modDrive_spillQueue (f) : (modDrive d f s).spillQueue = s.spillQueue := rfl
@[simp] theorem modDrive_spills (f) : (modDrive d f s).spills = s.spills := rfl
@[simp] theorem modDrive_spillCounter (f) : (modDrive d f s).spillCounter = s.spillCounter := rfl
@[simp] theorem modDrive_recipes (f) : (modDrive d f s).recipes = s.recipes := rfl
@[simp] theorem modDrive_keys (f) : (modDrive d f s).keys = s.keys := rfl
@[simp] theorem modDrive_restarted (f) : (modDrive d f s).restarted = s.restarted := rfl
@[simp] theorem modDrive_mask (f) : (modDrive d f s).mask = s.mask := rfl
@[simp] theorem modDrive_link (f) : (modDrive d f s).link = s.link := rfl
@[simp] theorem modDrive_pending (f) : (modDrive d f s).pending = s.pending := rfl

@[simp] theorem modDrive_uptime (f) : (modDrive d f s).uptime = s.uptime := rfl

@[simp] theorem drive_modDrive (f) : (modDrive d f s).drive d = f (s.drive d) := by
  simp [State.drive, modDrive]

@[simp] theorem drive_modDrive_ne (f) {d' : DriveNo} (h : d' ≠ d) : (modDrive d f s).drive d' = s.drive d' := by
  simp [State.drive, modDrive, h]

@[simp] theorem modDrive_modDrive (f g) : modDrive d f (modDrive d g s) = modDrive d (fun x => f (g x)) s := by
  simp [modDrive, State.drive]

@[simp] theorem chan_modDrive (f) : (modDrive d f s).chan c = s.chan c := rfl

@[simp] theorem raiseDrive_eq : raiseDrive d s = modDrive d (fun x => { x with driveFlag := true }) s := rfl

@[simp] theorem raiseServerEject_eq :
    raiseServerEject d s = modDrive d (fun x => { x with serverEjectFlag := true }) s := rfl

/-! ## The clock -/

@[simp] theorem advanceTo_epoch (t) : (s.advanceTo t).epoch = s.epoch := rfl
@[simp] theorem advanceTo_channels (t) : (s.advanceTo t).channels = s.channels := rfl
@[simp] theorem advanceTo_drives (t) : (s.advanceTo t).drives = s.drives := rfl
@[simp] theorem advanceTo_cleanList (t) : (s.advanceTo t).cleanList = s.cleanList := rfl
@[simp] theorem advanceTo_pageWaiters (t) : (s.advanceTo t).pageWaiters = s.pageWaiters := rfl
@[simp] theorem advanceTo_wants (t) : (s.advanceTo t).wants = s.wants := rfl
@[simp] theorem advanceTo_wantCounter (t) : (s.advanceTo t).wantCounter = s.wantCounter := rfl
@[simp] theorem advanceTo_entryWaiters (t) : (s.advanceTo t).entryWaiters = s.entryWaiters := rfl
@[simp] theorem advanceTo_spillQueue (t) : (s.advanceTo t).spillQueue = s.spillQueue := rfl
@[simp] theorem advanceTo_spills (t) : (s.advanceTo t).spills = s.spills := rfl
@[simp] theorem advanceTo_spillCounter (t) : (s.advanceTo t).spillCounter = s.spillCounter := rfl
@[simp] theorem advanceTo_recipes (t) : (s.advanceTo t).recipes = s.recipes := rfl
@[simp] theorem advanceTo_keys (t) : (s.advanceTo t).keys = s.keys := rfl
@[simp] theorem advanceTo_restarted (t) : (s.advanceTo t).restarted = s.restarted := rfl
@[simp] theorem advanceTo_mask (t) : (s.advanceTo t).mask = s.mask := rfl
@[simp] theorem advanceTo_link (t) : (s.advanceTo t).link = s.link := rfl
@[simp] theorem advanceTo_pending (t) : (s.advanceTo t).pending = s.pending := rfl

@[simp] theorem advanceTo_now (t) : (s.advanceTo t).now = max s.now t := rfl

@[simp] theorem chan_advanceTo (t) : (s.advanceTo t).chan c = s.chan c := rfl

@[simp] theorem drive_advanceTo (t) : (s.advanceTo t).drive d = s.drive d := rfl

/-! ## The link -/

@[simp] theorem shiftOut_now (l) : (shiftOut l s).now = s.now := rfl
@[simp] theorem appendReply_now (r) : (appendReply r s).now = s.now := rfl
@[simp] theorem discard_now : (discard s).now = s.now := rfl
@[simp] theorem shiftOut_epoch (l) : (shiftOut l s).epoch = s.epoch := rfl
@[simp] theorem appendReply_epoch (r) : (appendReply r s).epoch = s.epoch := rfl
@[simp] theorem discard_epoch : (discard s).epoch = s.epoch := rfl
@[simp] theorem shiftOut_channels (l) : (shiftOut l s).channels = s.channels := rfl
@[simp] theorem appendReply_channels (r) : (appendReply r s).channels = s.channels := rfl
@[simp] theorem discard_channels : (discard s).channels = s.channels := rfl
@[simp] theorem shiftOut_drives (l) : (shiftOut l s).drives = s.drives := rfl
@[simp] theorem appendReply_drives (r) : (appendReply r s).drives = s.drives := rfl
@[simp] theorem discard_drives : (discard s).drives = s.drives := rfl
@[simp] theorem shiftOut_cleanList (l) : (shiftOut l s).cleanList = s.cleanList := rfl
@[simp] theorem appendReply_cleanList (r) : (appendReply r s).cleanList = s.cleanList := rfl
@[simp] theorem discard_cleanList : (discard s).cleanList = s.cleanList := rfl
@[simp] theorem shiftOut_pageWaiters (l) : (shiftOut l s).pageWaiters = s.pageWaiters := rfl
@[simp] theorem appendReply_pageWaiters (r) : (appendReply r s).pageWaiters = s.pageWaiters := rfl
@[simp] theorem discard_pageWaiters : (discard s).pageWaiters = s.pageWaiters := rfl
@[simp] theorem shiftOut_wants (l) : (shiftOut l s).wants = s.wants := rfl
@[simp] theorem appendReply_wants (r) : (appendReply r s).wants = s.wants := rfl
@[simp] theorem discard_wants : (discard s).wants = s.wants := rfl
@[simp] theorem shiftOut_wantCounter (l) : (shiftOut l s).wantCounter = s.wantCounter := rfl
@[simp] theorem appendReply_wantCounter (r) : (appendReply r s).wantCounter = s.wantCounter := rfl
@[simp] theorem discard_wantCounter : (discard s).wantCounter = s.wantCounter := rfl
@[simp] theorem shiftOut_entryWaiters (l) : (shiftOut l s).entryWaiters = s.entryWaiters := rfl
@[simp] theorem appendReply_entryWaiters (r) : (appendReply r s).entryWaiters = s.entryWaiters := rfl
@[simp] theorem discard_entryWaiters : (discard s).entryWaiters = s.entryWaiters := rfl
@[simp] theorem shiftOut_spillQueue (l) : (shiftOut l s).spillQueue = s.spillQueue := rfl
@[simp] theorem appendReply_spillQueue (r) : (appendReply r s).spillQueue = s.spillQueue := rfl
@[simp] theorem discard_spillQueue : (discard s).spillQueue = s.spillQueue := rfl
@[simp] theorem shiftOut_spills (l) : (shiftOut l s).spills = s.spills := rfl
@[simp] theorem appendReply_spills (r) : (appendReply r s).spills = s.spills := rfl
@[simp] theorem discard_spills : (discard s).spills = s.spills := rfl
@[simp] theorem shiftOut_spillCounter (l) : (shiftOut l s).spillCounter = s.spillCounter := rfl
@[simp] theorem appendReply_spillCounter (r) : (appendReply r s).spillCounter = s.spillCounter := rfl
@[simp] theorem discard_spillCounter : (discard s).spillCounter = s.spillCounter := rfl
@[simp] theorem shiftOut_recipes (l) : (shiftOut l s).recipes = s.recipes := rfl
@[simp] theorem appendReply_recipes (r) : (appendReply r s).recipes = s.recipes := rfl
@[simp] theorem discard_recipes : (discard s).recipes = s.recipes := rfl
@[simp] theorem shiftOut_keys (l) : (shiftOut l s).keys = s.keys := rfl
@[simp] theorem appendReply_keys (r) : (appendReply r s).keys = s.keys := rfl
@[simp] theorem discard_keys : (discard s).keys = s.keys := rfl
@[simp] theorem shiftOut_restarted (l) : (shiftOut l s).restarted = s.restarted := rfl
@[simp] theorem appendReply_restarted (r) : (appendReply r s).restarted = s.restarted := rfl
@[simp] theorem discard_restarted : (discard s).restarted = s.restarted := rfl
@[simp] theorem shiftOut_mask (l) : (shiftOut l s).mask = s.mask := rfl
@[simp] theorem appendReply_mask (r) : (appendReply r s).mask = s.mask := rfl
@[simp] theorem discard_mask : (discard s).mask = s.mask := rfl
@[simp] theorem shiftOut_pending (l) : (shiftOut l s).pending = s.pending := rfl
@[simp] theorem appendReply_pending (r) : (appendReply r s).pending = s.pending := rfl
@[simp] theorem discard_pending : (discard s).pending = s.pending := rfl

@[simp] theorem shiftOut_link (l) :
    (shiftOut l s).link = { s.link with shiftedOut := s.statusByte :: l, reject := false } := rfl

@[simp] theorem appendReply_link (r) :
    (appendReply r s).link =
      { s.link with replies := s.link.replies ++ [r], formed := s.link.formed + 1 } := rfl

@[simp] theorem discard_link : (discard s).link = { s.link with reject := true } := rfl

@[simp] theorem chan_shiftOut (l) : (shiftOut l s).chan c = s.chan c := rfl
@[simp] theorem chan_appendReply (r) : (appendReply r s).chan c = s.chan c := rfl
@[simp] theorem drive_shiftOut (l) : (shiftOut l s).drive d = s.drive d := rfl
@[simp] theorem drive_appendReply (r) : (appendReply r s).drive d = s.drive d := rfl
@[simp] theorem uptime_shiftOut (l) : (shiftOut l s).uptime = s.uptime := rfl
@[simp] theorem uptime_appendReply (r) : (appendReply r s).uptime = s.uptime := rfl

end Machine

end Sys2Proof
end

