-- ==== Sys2Proof/Laws/PerInstr.lean ====
section
/-! SUPPORT. The family `Frame`, about a command as syntax: a well-formed request's frame has a body that fits
(R177), and the reader of the catalogue reads the command back from the frame's kind, tag and body. One lemma
for each constructor of `Instr`; a command that is no host request has no frame. -/

namespace Sys2Proof

/-! ## Fields written and read back -/

/-- Two neighbouring fields of a word, joined, are the field that spans them. -/
theorem extract_append {w : Nat} (x : BitVec w) (s n m : Nat) :
    x.extractLsb' (s + m) n ++ x.extractLsb' s m = x.extractLsb' s (n + m) := by
  apply BitVec.eq_of_getLsbD_eq
  intro i hi
  simp only [BitVec.getLsbD_append, BitVec.getLsbD_extractLsb']
  by_cases h : i < m
  · simp [h]; omega
  · have : s + m + (i - m) = s + i := by omega
    have h2 : i - m < n := by omega
    simp [h, this, h2, hi]

@[simp] theorem halfOf_bytes (h : Half) : halfOf (h.extractLsb' 8 8) (h.extractLsb' 0 8) = h :=
  (extract_append h 0 8 8).trans (BitVec.extractLsb'_eq_self)

@[simp] theorem quadOf_bytes (q : Quad) :
    quadOf (q.extractLsb' 24 8) (q.extractLsb' 16 8) (q.extractLsb' 8 8) (q.extractLsb' 0 8) = q := by
  have a := extract_append q 16 8 8
  have b := extract_append q 0 8 8
  have d := extract_append q 0 16 16
  simp only [Nat.reduceAdd] at a b d
  unfold quadOf
  exact (congrArg₂ (fun (x y : BitVec 16) => (x ++ y : BitVec (16 + 16))) a b).trans (d.trans BitVec.extractLsb'_eq_self)

@[simp] theorem posOf_bytes (p : Pos48) :
    posOf (p.extractLsb' 40 8) (p.extractLsb' 32 8) (p.extractLsb' 24 8) (p.extractLsb' 16 8)
      (p.extractLsb' 8 8) (p.extractLsb' 0 8) = p := by
  have a := extract_append p 32 8 8
  have b := extract_append p 16 8 8
  have d := extract_append p 0 8 8
  have e := extract_append p 0 16 16
  have f := extract_append p 0 16 32
  have g := (congrArg₂ (fun (x y : BitVec 16) => (x ++ y : BitVec (16 + 16))) b d).trans e
  exact (congrArg₂ (fun (x : BitVec 16) (y : BitVec 32) => (x ++ y : BitVec (16 + 32))) a g).trans
    (f.trans BitVec.extractLsb'_eq_self)

theorem stepRecords_bytes (l : List StepRecord) : stepRecords (l.flatMap StepRecord.bytes) = some l := by
  induction l with
  | nil => rfl
  | cons r rest ih => simp [StepRecord.bytes, Quad.bytes, stepRecords, ih]

theorem stepRecords_length (l : List StepRecord) : (l.flatMap StepRecord.bytes).length = 9 * l.length := by
  induction l with
  | nil => rfl
  | cons r rest ih => simp [StepRecord.bytes, Quad.bytes]; omega

end Sys2Proof

namespace Sys2Proof.Laws.Frame

/-- The frame of a request fits and spells it. -/
def Statement (i : Instr) : Prop :=
  ∀ f : RequestFrame, i.request? = some f → i.wellFormed = true →
    f.body.length ≤ 4160 ∧ requestOf f.kind f.tag f.body = some i

/-- A frame of one kind, tag and body: what the statement comes to. -/
theorem of_frame {i : Instr} {f : RequestFrame} (hf : i.request? = some f)
    (h : i.wellFormed = true → f.body.length ≤ 4160 ∧ requestOf f.kind f.tag f.body = some i) : Statement i := by
  intro g hg hw
  have : f = g := Option.some.inj (hf.symm.trans hg)
  exact this ▸ h hw

/-- A command without a frame. -/
theorem of_none {i : Instr} (hf : i.request? = none) : Statement i := by
  intro f h
  simp [hf] at h

theorem powerOnReset (pins : Table 8 Pins) : Statement (.powerOnReset pins) := of_none rfl
theorem partReset (tag : Byte) : Statement (.partReset tag) := of_frame rfl fun _ => ⟨Nat.le_of_ble_eq_true rfl, rfl⟩
theorem channelReset (tag : Byte) (channel : Byte) : Statement (.channelReset tag channel) := of_frame rfl fun _ => ⟨Nat.le_of_ble_eq_true rfl, rfl⟩
theorem identify (tag : Byte) : Statement (.identify tag) := of_frame rfl fun _ => ⟨Nat.le_of_ble_eq_true rfl, rfl⟩
theorem cut (tag : Byte) (channel : Byte) : Statement (.cut tag channel) := of_frame rfl fun _ => ⟨Nat.le_of_ble_eq_true rfl, rfl⟩
theorem supply (tag : Byte) (channel : Byte) : Statement (.supply tag channel) := of_frame rfl fun _ => ⟨Nat.le_of_ble_eq_true rfl, rfl⟩
theorem pressButton (tag : Byte) (channel : Byte) (duration : Half) : Statement (.pressButton tag channel duration) := of_frame rfl fun _ => ⟨Nat.le_of_ble_eq_true rfl, by
      show some (Instr.pressButton tag channel (halfOf _ _)) = _
      rw [halfOf_bytes]⟩
theorem pulseReset (tag : Byte) (channel : Byte) (duration : Half) : Statement (.pulseReset tag channel duration) := of_frame rfl fun _ => ⟨Nat.le_of_ble_eq_true rfl, by
      show some (Instr.pulseReset tag channel (halfOf _ _)) = _
      rw [halfOf_bytes]⟩
theorem setPowerSettings (tag : Byte) (channel : Byte) (qualifyTime : Byte) (minimumOff : Byte) : Statement (.setPowerSettings tag channel qualifyTime minimumOff) := of_frame rfl fun _ => ⟨Nat.le_of_ble_eq_true rfl, rfl⟩
theorem powerStatus (tag : Byte) (channel : Byte) : Statement (.powerStatus tag channel) := of_frame rfl fun _ => ⟨Nat.le_of_ble_eq_true rfl, rfl⟩
theorem relearnBaud (tag : Byte) (channel : Byte) : Statement (.relearnBaud tag channel) := of_frame rfl fun _ => ⟨Nat.le_of_ble_eq_true rfl, rfl⟩
theorem setBaudMode (tag : Byte) (channel : Byte) (mode : Byte) (rate : Quad) : Statement (.setBaudMode tag channel mode rate) := of_frame rfl fun _ => ⟨Nat.le_of_ble_eq_true rfl, by
      show some (Instr.setBaudMode tag channel mode (quadOf _ _ _ _)) = _
      rw [quadOf_bytes]⟩
theorem setBaudSettings (tag : Byte) (channel : Byte) (window : Half) (tolerance : Byte) (agree : Byte) (threshold : Byte) (relearn : Byte) : Statement (.setBaudSettings tag channel window tolerance agree threshold relearn) := of_frame rfl fun _ => ⟨Nat.le_of_ble_eq_true rfl, by
      show some (Instr.setBaudSettings tag channel (halfOf _ _) tolerance agree threshold relearn) = _
      rw [halfOf_bytes]⟩
theorem baudStatus (tag : Byte) (channel : Byte) : Statement (.baudStatus tag channel) := of_frame rfl fun _ => ⟨Nat.le_of_ble_eq_true rfl, rfl⟩
theorem setHeartbeatSettings (tag : Byte) (channel : Byte) (enable : Byte) (window : Half) (sp1 : Half) (sp2 : Half) (streak : Byte) : Statement (.setHeartbeatSettings tag channel enable window sp1 sp2 streak) := of_frame rfl fun _ => ⟨Nat.le_of_ble_eq_true rfl, by
      show some (Instr.setHeartbeatSettings tag channel enable (halfOf _ _) (halfOf _ _) (halfOf _ _) streak) = _
      rw [halfOf_bytes, halfOf_bytes, halfOf_bytes]⟩
theorem heartbeatStatus (tag : Byte) (channel : Byte) : Statement (.heartbeatStatus tag channel) := of_frame rfl fun _ => ⟨Nat.le_of_ble_eq_true rfl, rfl⟩
theorem setCaptureLimits (tag : Byte) (channel : Byte) (floor : Byte) (ceiling : Byte) : Statement (.setCaptureLimits tag channel floor ceiling) := of_frame rfl fun _ => ⟨Nat.le_of_ble_eq_true rfl, rfl⟩
theorem consoleRead (tag : Byte) (channel : Byte) (start : Pos48) (maximum : Half) (skip : Byte) : Statement (.consoleRead tag channel start maximum skip) := of_frame rfl fun _ => ⟨Nat.le_of_ble_eq_true rfl, by
      show some (Instr.consoleRead tag channel (posOf _ _ _ _ _ _) (halfOf _ _) skip) = _
      rw [posOf_bytes, halfOf_bytes]⟩
theorem consoleStatus (tag : Byte) (channel : Byte) : Statement (.consoleStatus tag channel) := of_frame rfl fun _ => ⟨Nat.le_of_ble_eq_true rfl, rfl⟩
theorem sendConsole (tag : Byte) (channel : Byte) (bytes : List Byte) : Statement (.sendConsole tag channel bytes) := by
  refine of_frame rfl fun hw => ?_
  simp only [Instr.wellFormed, fitsFrame, decide_eq_true_eq] at hw
  exact ⟨by simp only [List.length_cons]; omega, rfl⟩
theorem flushConsoleTx (tag : Byte) (channel : Byte) : Statement (.flushConsoleTx tag channel) := of_frame rfl fun _ => ⟨Nat.le_of_ble_eq_true rfl, rfl⟩
theorem sendBreak (tag : Byte) (channel : Byte) (duration : Half) : Statement (.sendBreak tag channel duration) := of_frame rfl fun _ => ⟨Nat.le_of_ble_eq_true rfl, by
      show some (Instr.sendBreak tag channel (halfOf _ _)) = _
      rw [halfOf_bytes]⟩
theorem setTransmitSettings (tag : Byte) (channel : Byte) (flow : Byte) (stallLimit : Byte) : Statement (.setTransmitSettings tag channel flow stallLimit) := of_frame rfl fun _ => ⟨Nat.le_of_ble_eq_true rfl, rfl⟩
theorem transmitStatus (tag : Byte) (channel : Byte) : Statement (.transmitStatus tag channel) := of_frame rfl fun _ => ⟨Nat.le_of_ble_eq_true rfl, rfl⟩
theorem setPattern (tag : Byte) (channel : Byte) (unit : Byte) (fold : Byte) (mode : Byte) (pattern : List Byte) : Statement (.setPattern tag channel unit fold mode pattern) := by
  refine of_frame rfl fun hw => ?_
  simp only [Instr.wellFormed, fitsFrame, decide_eq_true_eq] at hw
  exact ⟨by simp only [List.length_cons]; omega, rfl⟩
theorem armMatch (tag : Byte) (channel : Byte) (unit : Byte) : Statement (.armMatch tag channel unit) := of_frame rfl fun _ => ⟨Nat.le_of_ble_eq_true rfl, rfl⟩
theorem disarmMatch (tag : Byte) (channel : Byte) (unit : Byte) : Statement (.disarmMatch tag channel unit) := of_frame rfl fun _ => ⟨Nat.le_of_ble_eq_true rfl, rfl⟩
theorem readMatch (tag : Byte) (channel : Byte) (unit : Byte) : Statement (.readMatch tag channel unit) := of_frame rfl fun _ => ⟨Nat.le_of_ble_eq_true rfl, rfl⟩
theorem poolStatus (tag : Byte) : Statement (.poolStatus tag) := of_frame rfl fun _ => ⟨Nat.le_of_ble_eq_true rfl, rfl⟩
theorem loadDrive (tag : Byte) (drive : Byte) (descriptor : DescriptorRecord) : Statement (.loadDrive tag drive descriptor) := of_frame rfl fun _ => ⟨Nat.le_of_ble_eq_true rfl, by
      show some (Instr.loadDrive tag drive ⟨halfOf _ _, quadOf _ _ _ _, _, _, halfOf _ _, _, halfOf _ _, halfOf _ _⟩) = _
      rw [halfOf_bytes, quadOf_bytes, halfOf_bytes, halfOf_bytes, halfOf_bytes]⟩
theorem unloadDrive (tag : Byte) (drive : Byte) : Statement (.unloadDrive tag drive) := of_frame rfl fun _ => ⟨Nat.le_of_ble_eq_true rfl, rfl⟩
theorem insert (tag : Byte) (drive : Byte) (channel : Byte) : Statement (.insert tag drive channel) := of_frame rfl fun _ => ⟨Nat.le_of_ble_eq_true rfl, rfl⟩
theorem eject (tag : Byte) (drive : Byte) (force : Byte) : Statement (.eject tag drive force) := of_frame rfl fun _ => ⟨Nat.le_of_ble_eq_true rfl, rfl⟩
theorem setPortPresence (tag : Byte) (channel : Byte) (presence : Byte) : Statement (.setPortPresence tag channel presence) := of_frame rfl fun _ => ⟨Nat.le_of_ble_eq_true rfl, rfl⟩
theorem driveStatus (tag : Byte) (drive : Byte) : Statement (.driveStatus tag drive) := of_frame rfl fun _ => ⟨Nat.le_of_ble_eq_true rfl, rfl⟩
theorem portStatus (tag : Byte) (channel : Byte) : Statement (.portStatus tag channel) := of_frame rfl fun _ => ⟨Nat.le_of_ble_eq_true rfl, rfl⟩
theorem takeWants (tag : Byte) : Statement (.takeWants tag) := of_frame rfl fun _ => ⟨Nat.le_of_ble_eq_true rfl, rfl⟩
theorem fill (tag : Byte) (want : Byte) (drive : Byte) (page : Quad) (valid : Byte) (size : Byte) (data : List Byte) : Statement (.fill tag want drive page valid size data) := by
  refine of_frame rfl fun hw => ?_
  simp only [Instr.wellFormed, fitsFrame, decide_eq_true_eq] at hw
  have hl : data.length % 65536 = data.length := Nat.mod_eq_of_lt (by omega)
  constructor
  · simp [Quad.bytes, Half.bytes]; omega
  · simp [requestOf, Quad.bytes, Half.bytes, hl]
theorem fillFailed (tag : Byte) (want : Byte) (drive : Byte) (page : Quad) (reason : Byte) : Statement (.fillFailed tag want drive page reason) := of_frame rfl fun _ => ⟨Nat.le_of_ble_eq_true rfl, by
      show some (Instr.fillFailed tag want drive (quadOf _ _ _ _) reason) = _
      rw [quadOf_bytes]⟩
theorem takeSpill (tag : Byte) : Statement (.takeSpill tag) := of_frame rfl fun _ => ⟨Nat.le_of_ble_eq_true rfl, rfl⟩
theorem spillDone (tag : Byte) (spill : Byte) (drive : Byte) (page : Quad) (outcome : Byte) : Statement (.spillDone tag spill drive page outcome) := of_frame rfl fun _ => ⟨Nat.le_of_ble_eq_true rfl, by
      show some (Instr.spillDone tag spill drive (quadOf _ _ _ _) outcome) = _
      rw [quadOf_bytes]⟩
theorem writeRecipe (tag : Byte) (recipe : Byte) (steps : List StepRecord) : Statement (.writeRecipe tag recipe steps) := by
  refine of_frame rfl fun hw => ?_
  simp only [Instr.wellFormed, fitsFrame, decide_eq_true_eq] at hw
  constructor
  · simp only [List.length_cons, stepRecords_length]; omega
  · simp [requestOf, stepRecords_bytes]
theorem writeKeyString (tag : Byte) (key : Byte) (bytes : List Byte) : Statement (.writeKeyString tag key bytes) := by
  refine of_frame rfl fun hw => ?_
  simp only [Instr.wellFormed, fitsFrame, decide_eq_true_eq] at hw
  exact ⟨by simp only [List.length_cons]; omega, rfl⟩
theorem readRecipe (tag : Byte) (recipe : Byte) : Statement (.readRecipe tag recipe) := of_frame rfl fun _ => ⟨Nat.le_of_ble_eq_true rfl, rfl⟩
theorem readKeyString (tag : Byte) (key : Byte) : Statement (.readKeyString tag key) := of_frame rfl fun _ => ⟨Nat.le_of_ble_eq_true rfl, rfl⟩
theorem runRecipe (tag : Byte) (channel : Byte) (recipe : Byte) : Statement (.runRecipe tag channel recipe) := of_frame rfl fun _ => ⟨Nat.le_of_ble_eq_true rfl, rfl⟩
theorem stopRecipe (tag : Byte) (channel : Byte) : Statement (.stopRecipe tag channel) := of_frame rfl fun _ => ⟨Nat.le_of_ble_eq_true rfl, rfl⟩
theorem runStatus (tag : Byte) (channel : Byte) : Statement (.runStatus tag channel) := of_frame rfl fun _ => ⟨Nat.le_of_ble_eq_true rfl, rfl⟩
theorem setTrigger (tag : Byte) (channel : Byte) (slot : Byte) (event : Byte) (unit : Byte) (given : Byte) (recipe : Byte) (holdoff : Half) (limit : Byte) : Statement (.setTrigger tag channel slot event unit given recipe holdoff limit) := of_frame rfl fun _ => ⟨Nat.le_of_ble_eq_true rfl, by
      show some (Instr.setTrigger tag channel slot event unit given recipe (halfOf _ _) limit) = _
      rw [halfOf_bytes]⟩
theorem rearmTrigger (tag : Byte) (channel : Byte) (slot : Byte) : Statement (.rearmTrigger tag channel slot) := of_frame rfl fun _ => ⟨Nat.le_of_ble_eq_true rfl, rfl⟩
theorem triggerStatus (tag : Byte) (channel : Byte) : Statement (.triggerStatus tag channel) := of_frame rfl fun _ => ⟨Nat.le_of_ble_eq_true rfl, rfl⟩
theorem setNoticeMask (tag : Byte) (fields : Table 29 Byte) : Statement (.setNoticeMask tag fields) := by
  refine of_frame rfl fun _ => ⟨by simp [fields.size], ?_⟩
  simp [requestOf, fields.size]
theorem readChanges (tag : Byte) : Statement (.readChanges tag) := of_frame rfl fun _ => ⟨Nat.le_of_ble_eq_true rfl, rfl⟩
theorem badFrame (bytes : List Byte) : Statement (.badFrame bytes) := of_none rfl
theorem replyRead (clocked : Nat) : Statement (.replyRead clocked) := of_none rfl
theorem linkOtherTransaction (first : Option Byte) (clocked : Nat) : Statement (.linkOtherTransaction first clocked) := of_none rfl
theorem pgChange (channel : Channel) (level : Bool) : Statement (.pgChange channel level) := of_none rfl
theorem pgQualified (channel : Channel) : Statement (.pgQualified channel) := of_none rfl
theorem holdoffExpiry (channel : Channel) : Statement (.holdoffExpiry channel) := of_none rfl
theorem pulseEnd (channel : Channel) (line : Line) : Statement (.pulseEnd channel line) := of_none rfl
theorem attributionWindowExpiry (channel : Channel) (line : Line) : Statement (.attributionWindowExpiry channel line) := of_none rfl
theorem lockChange (channel : Channel) (level : Bool) : Statement (.lockChange channel level) := of_none rfl
theorem lockQualifiedLocked (channel : Channel) : Statement (.lockQualifiedLocked channel) := of_none rfl
theorem lockQualifiedFree (channel : Channel) : Statement (.lockQualifiedFree channel) := of_none rfl
theorem characterAccepted (channel : Channel) : Statement (.characterAccepted channel) := of_none rfl
theorem framingError (channel : Channel) : Statement (.framingError channel) := of_none rfl
theorem baudWindowEnd (channel : Channel) : Statement (.baudWindowEnd channel) := of_none rfl
theorem hbChange (channel : Channel) (level : Bool) : Statement (.hbChange channel level) := of_none rfl
theorem heartbeatEdge (channel : Channel) : Statement (.heartbeatEdge channel) := of_none rfl
theorem heartbeatWindowEnd (channel : Channel) : Statement (.heartbeatWindowEnd channel) := of_none rfl
theorem characterEnd (channel : Channel) : Statement (.characterEnd channel) := of_none rfl
theorem breakEnd (channel : Channel) : Statement (.breakEnd channel) := of_none rfl
theorem keyCountdownExpiry (channel : Channel) : Statement (.keyCountdownExpiry channel) := of_none rfl
theorem rtrAsserted (channel : Channel) (level : Bool) : Statement (.rtrAsserted channel level) := of_none rfl
theorem stallExpiry (channel : Channel) : Statement (.stallExpiry channel) := of_none rfl
theorem pageWaitDeadline (channel : Channel) : Statement (.pageWaitDeadline channel) := of_none rfl
theorem vbusChange (channel : Channel) (level : Bool) : Statement (.vbusChange channel level) := of_none rfl
theorem vbusQualified (channel : Channel) : Statement (.vbusQualified channel) := of_none rfl
theorem busReset (channel : Channel) : Statement (.busReset channel) := of_none rfl
theorem configuration (channel : Channel) : Statement (.configuration channel) := of_none rfl
theorem deconfiguration (channel : Channel) : Statement (.deconfiguration channel) := of_none rfl
theorem suspend (channel : Channel) : Statement (.suspend channel) := of_none rfl
theorem resume (channel : Channel) : Statement (.resume channel) := of_none rfl
theorem remoteWakeSetting (channel : Channel) (on : Bool) : Statement (.remoteWakeSetting channel on) := of_none rfl
theorem queryReady (channel : Channel) : Statement (.queryReady channel) := of_none rfl
theorem queryCapacity (channel : Channel) : Statement (.queryCapacity channel) := of_none rfl
theorem readBlocks (channel : Channel) (lba : Nat) (count : Nat) : Statement (.readBlocks channel lba count) := of_none rfl
theorem writeBlocks (channel : Channel) (lba : Nat) (count : Nat) (data : List Byte) : Statement (.writeBlocks channel lba count data) := of_none rfl
theorem removalLock (channel : Channel) (on : Bool) : Statement (.removalLock channel on) := of_none rfl
theorem serverEject (channel : Channel) : Statement (.serverEject channel) := of_none rfl
theorem sync (channel : Channel) : Statement (.sync channel) := of_none rfl
theorem syncDeadline (channel : Channel) : Statement (.syncDeadline channel) := of_none rfl
theorem wantDeadline (want : Byte) : Statement (.wantDeadline want) := of_none rfl
theorem wantWaitDeadline (channel : Channel) : Statement (.wantWaitDeadline channel) := of_none rfl
theorem wantEntryDeadline (channel : Channel) : Statement (.wantEntryDeadline channel) := of_none rfl
theorem dirtyWaitDeadline (channel : Channel) : Statement (.dirtyWaitDeadline channel) := of_none rfl
theorem spillDeadline (spill : Byte) : Statement (.spillDeadline spill) := of_none rfl
theorem stepTimeout (channel : Channel) : Statement (.stepTimeout channel) := of_none rfl
theorem delayEnd (channel : Channel) : Statement (.delayEnd channel) := of_none rfl
theorem quietIntervalEnd (channel : Channel) : Statement (.quietIntervalEnd channel) := of_none rfl
theorem triggerHoldoffExpiry (channel : Channel) (slot : SlotNo) : Statement (.triggerHoldoffExpiry channel slot) := of_none rfl
theorem rxdRawChange (channel : Channel) (level : Bool) (gap : Nat) : Statement (.rxdRawChange channel level gap) := of_none rfl
theorem survivingEdge (channel : Channel) : Statement (.survivingEdge channel) := of_none rfl
theorem falseStart (channel : Channel) : Statement (.falseStart channel) := of_none rfl
theorem heartbeatQualifiedLow (channel : Channel) : Statement (.heartbeatQualifiedLow channel) := of_none rfl

end Sys2Proof.Laws.Frame
end

