-- ==== Sys2Proof/Laws/Link.lean ====
section
/-! SUPPORT. What the shared operations of the link can do, said once: a request taken, a request ignored, an
identifier or a two-valued field read, a frame read back. -/

namespace Sys2Proof

theorem crc16_bytes_length (l : List Byte) : (crc16 l).bytes.length = 2 := rfl

/-- The bytes of a frame whose body fits are read back as the request of its kind, tag and body. -/
theorem readFrame_bytes (f : RequestFrame) (h : f.body.length ≤ 4160) :
    readFrame f.bytes = requestOf f.kind f.tag f.body := by
  have hl : (halfOf ((BitVec.ofNat 16 f.body.length).extractLsb' 8 8)
      ((BitVec.ofNat 16 f.body.length).extractLsb' 0 8)).toNat = f.body.length := by
    rw [halfOf_bytes, BitVec.toNat_ofNat, Nat.mod_eq_of_lt (by omega)]
  simp only [RequestFrame.bytes, Half.bytes, List.cons_append, List.nil_append, readFrame, hl]
  have h1 : (f.body ++ [(crc16 (f.kind :: f.tag :: (BitVec.ofNat 16 f.body.length).extractLsb' 8 8 ::
      (BitVec.ofNat 16 f.body.length).extractLsb' 0 8 :: f.body)).extractLsb' 8 8,
      (crc16 (f.kind :: f.tag :: (BitVec.ofNat 16 f.body.length).extractLsb' 8 8 ::
      (BitVec.ofNat 16 f.body.length).extractLsb' 0 8 :: f.body)).extractLsb' 0 8]).length = f.body.length + 2 := by
    simp
  simp [fitsFrame, h]

namespace Machine

variable {s : State}

/-! ## Operands -/

theorem ident?_eq_some {n : Nat} {b : Byte} {i : Fin n} : ident? n b = some i ↔ b.toNat = i.val := by
  unfold ident?
  by_cases h : b.toNat < n
  · simp [h, Fin.ext_iff]
  · simp only [h, dite_false, reduceCtorEq, false_iff]
    have := i.isLt
    omega

theorem ident?_eq_none {n : Nat} {b : Byte} : ident? n b = none ↔ n ≤ b.toNat := by
  unfold ident?
  by_cases h : b.toNat < n <;> simp [h]; omega

theorem onChannel_some {ch : Byte} {c : Channel} {h : Channel → Handler} (hc : ident? 8 ch = some c) :
    onChannel ch h s = h c s := by simp [onChannel, hc]

theorem onChannel_none {ch : Byte} {h : Channel → Handler} (hc : ident? 8 ch = none) :
    onChannel ch h s = (s, ⟨.badValue, []⟩) := by simp [onChannel, hc, answers]

theorem onDrive_some {b : Byte} {d : DriveNo} {h : DriveNo → Handler} (hd : ident? 4 b = some d) :
    onDrive b h s = h d s := by simp [onDrive, hd]

theorem onDrive_none {b : Byte} {h : DriveNo → Handler} (hd : ident? 4 b = none) :
    onDrive b h s = (s, ⟨.badValue, []⟩) := by simp [onDrive, hd, answers]

theorem onFlag_some {b : Byte} {v : Bool} {h : Bool → Handler} (hv : flag? b = some v) :
    onFlag b h s = h v s := by simp [onFlag, hv]

theorem onFlag_none {b : Byte} {h : Bool → Handler} (hv : flag? b = none) :
    onFlag b h s = (s, ⟨.badValue, []⟩) := by simp [onFlag, hv, answers]

/-! ## A request taken or ignored -/

/-- The state after the bytes of a request frame have been shifted in, as its owning rule finds it. -/
theorem takeRequest_ready {i : Instr} {f : RequestFrame} {h : Handler} (hf : i.request? = some f)
    (hr : s.ready = true) (hfit : fitsFrame f.body.length = true) :
    takeRequest i h s =
      appendReply ⟨f.kind, f.tag, (h (shiftOut (List.replicate (6 + f.body.length) 0) s)).2.status,
        (h (shiftOut (List.replicate (6 + f.body.length) 0) s)).2.body⟩
        (h (shiftOut (List.replicate (6 + f.body.length) 0) s)).1 := by
  simp [takeRequest, hf, takeFrame, hr, hfit]

/-- A request is answered as its owning rule says, where that rule leaves the link as it found it. -/
theorem takeRequest_answered {i : Instr} {f : RequestFrame} {h : Handler} {t : State} {st : Status}
    {body : List Byte} (hf : i.request? = some f) (hr : s.ready = true)
    (hfit : fitsFrame f.body.length = true)
    (hh : h (shiftOut (List.replicate (6 + f.body.length) 0) s) =
      (t.withLink (shiftOut (List.replicate (6 + f.body.length) 0) s).link, ⟨st, body⟩)) :
    takeRequest i h s = s.answered i t st body := by
  rw [takeRequest_ready hf hr hfit, hh]
  simp [State.answered, hf, appendReply, State.withLink, State.replied]

/-- With READY clear a request is ignored and sets REJECT (R177). -/
theorem takeRequest_ignored {i : Instr} {f : RequestFrame} {h : Handler} (hf : i.request? = some f)
    (hr : s.ready = false) :
    takeRequest i h s = s.withLink (s.rejected (6 + f.body.length)) := by
  simp [takeRequest, hf, takeFrame, hr, discard, shiftOut, State.withLink, State.rejected]

/-! ## Replies -/

theorem ready_iff : s.ready = true ↔ s.link.replies.length < 8 := by
  unfold State.ready
  exact decide_eq_true_iff

end Machine

end Sys2Proof
end

