-- ==== Sys2Proof/Laws/Maps.lean ====
section
/-! SUPPORT. What the operations of a page map and of a marker list can do, said once: reading a page back
after one was put or erased, the one form of a map kept by both and met after reset, a marker list of at most
64. -/

namespace Sys2Proof.Machine

/-! ## A page read after one was put or erased -/

theorem mapFind_some_index {i : Nat} {p : CachePage} :
    ∀ {m : List CachePage}, mapFind i m = some p → p.index = i ∧ p ∈ m
  | [], h => by simp [mapFind] at h
  | q :: rest, h => by
    unfold mapFind at h
    split at h
    · simp_all
    · have := mapFind_some_index h
      exact ⟨this.1, List.mem_cons_of_mem _ this.2⟩

/-- The form of a map with a first page: every other page's index is above it, and the rest has the form. -/
theorem mapWf_cons {p : CachePage} {m : List CachePage} :
    mapWf (p :: m) = true ↔ (∀ q ∈ m, p.index < q.index) ∧ mapWf m = true := by
  induction m generalizing p with
  | nil => simp [mapWf]
  | cons q rest ih =>
    simp only [mapWf, Bool.and_eq_true, decide_eq_true_eq, List.mem_cons, forall_eq_or_imp]
    constructor
    · rintro ⟨h, hw⟩
      exact ⟨⟨h, fun r hr => Nat.lt_trans h ((ih.1 hw).1 r hr)⟩, hw⟩
    · rintro ⟨⟨h, -⟩, hw⟩
      exact ⟨h, hw⟩

theorem mapFind_none_of_lt {i : Nat} :
    ∀ {m : List CachePage}, (∀ q ∈ m, i < q.index) → mapFind i m = none
  | [], _ => rfl
  | q :: rest, h => by
    have := h q (by simp)
    simp [mapFind, show q.index ≠ i by omega, mapFind_none_of_lt fun r hr => h r (List.mem_cons_of_mem _ hr)]

/-- A page put is the page then found at its index, and every other index finds what it found. -/
theorem mapFind_mapPut (p : CachePage) (i : Nat) :
    ∀ m : List CachePage, mapFind i (mapPut p m) = if i = p.index then some p else mapFind i m
  | [] => by simp [mapPut, mapFind, eq_comm]
  | q :: rest => by
    unfold mapPut
    split
    · by_cases h : i = p.index <;> simp [mapFind, h, eq_comm]
    · split
      next h1 h2 =>
        by_cases h : i = p.index
        · simp [mapFind, h]
        · have h3 : ¬ p.index = i := fun e => h e.symm
          have h4 : ¬ q.index = i := by omega
          simp [mapFind, h, h3, h4]
      next h1 h2 =>
        have ih := mapFind_mapPut p i rest
        by_cases h : q.index = i
        · have h3 : ¬ i = p.index := by omega
          simp [mapFind, h, h3]
        · simp [mapFind, h, ih]

/-- In a map of the one form, an erased page is absent and every other index finds what it found. -/
theorem mapFind_mapErase (i j : Nat) :
    ∀ m : List CachePage, mapWf m = true →
      mapFind j (mapErase i m) = if j = i then none else mapFind j m
  | [], _ => by simp [mapErase, mapFind]
  | q :: rest, hw => by
    obtain ⟨hlt, hr⟩ := mapWf_cons.1 hw
    unfold mapErase
    split
    next h =>
      subst h
      by_cases hj : j = q.index
      · subst hj
        simp [mapFind_none_of_lt hlt]
      · simp [mapFind, hj, Ne.symm hj]
    next h =>
      by_cases hj : q.index = j
      · have : ¬ j = i := by omega
        simp [mapFind, hj, this]
      · simp [mapFind, hj, mapFind_mapErase i j rest hr]

/-! ## The one form is kept -/

theorem mem_mapPut {p q : CachePage} : ∀ {m : List CachePage}, q ∈ mapPut p m → q = p ∨ q ∈ m
  | [], h => by simpa [mapPut] using h
  | r :: rest, h => by
    unfold mapPut at h
    split at h
    · simpa using h
    · split at h
      · rcases List.mem_cons.1 h with h | h
        · exact .inl h
        · exact .inr (List.mem_cons_of_mem _ h)
      · rcases List.mem_cons.1 h with h | h
        · exact .inr (by simp [h])
        · exact (mem_mapPut h).imp_right (List.mem_cons_of_mem _)

theorem mem_mapErase {i : Nat} {q : CachePage} : ∀ {m : List CachePage}, q ∈ mapErase i m → q ∈ m
  | [], h => by simp [mapErase] at h
  | r :: rest, h => by
    unfold mapErase at h
    split at h
    · exact List.mem_cons_of_mem _ h
    · rcases List.mem_cons.1 h with h | h
      · simp [h]
      · exact List.mem_cons_of_mem _ (mem_mapErase h)

/-- Putting a page keeps the one form of a map (R125). -/
theorem mapWf_mapPut (p : CachePage) : ∀ m : List CachePage, mapWf m = true → mapWf (mapPut p m) = true
  | [], _ => rfl
  | q :: rest, hw => by
    obtain ⟨hlt, hr⟩ := mapWf_cons.1 hw
    unfold mapPut
    split
    next h =>
      refine mapWf_cons.2 ⟨fun r hm => ?_, hw⟩
      rcases List.mem_cons.1 hm with e | hm
      · exact e ▸ h
      · exact Nat.lt_trans h (hlt r hm)
    next h =>
      split
      next h2 => exact mapWf_cons.2 ⟨fun r hm => h2 ▸ hlt r hm, hr⟩
      next h2 =>
        refine mapWf_cons.2 ⟨fun r hm => ?_, mapWf_mapPut p rest hr⟩
        rcases mem_mapPut hm with e | hm
        · subst e; omega
        · exact hlt r hm

/-- Erasing a page keeps the one form of a map (R125). -/
theorem mapWf_mapErase (i : Nat) : ∀ m : List CachePage, mapWf m = true → mapWf (mapErase i m) = true
  | [], _ => rfl
  | q :: rest, hw => by
    obtain ⟨hlt, hr⟩ := mapWf_cons.1 hw
    unfold mapErase
    split
    · exact hr
    · exact mapWf_cons.2 ⟨fun r hm => hlt r (mem_mapErase hm), mapWf_mapErase i rest hr⟩

/-- Every page map of the reset state has the one form. -/
theorem reset_mapsOrdered : State.reset.MapsOrdered := by
  show ∀ d : DriveNo, mapWf (State.reset.drive d).map = true
  decide

/-! ## Marker lists -/

/-- A marker list holds at most 64 markers after one was pushed, the new one last (R51). -/
theorem pushMarker_length (m : Marker) (l : List Marker) : (pushMarker m l).length ≤ 64 := by
  unfold pushMarker
  have : Config.markerDepth = 64 := rfl
  split <;> simp <;> omega

theorem pushMarker_getLast (m : Marker) (l : List Marker) : (pushMarker m l).getLast? = some m := by
  simp [pushMarker]

end Sys2Proof.Machine
end

