-- ==== Sys2Proof/Laws/Ops.lean ====
section
/-! SUPPORT. The shared operations in the words of the statements: each is the state with one channel's or one
drive's record replaced, what a run, a request or a waiting list that is not there makes of them, and the
arbiter's turn at an end. -/

namespace Sys2Proof.Machine

variable (s : State) (c : Channel) (d : DriveNo)

/-! ## One record replaced -/

@[simp] theorem chan_putChan (x : ChannelState) : (s.putChan c x).chan c = x := by
  simp [State.chan, State.putChan]

@[simp] theorem chan_putChan_ne {c' : Channel} (x : ChannelState) (h : c' ≠ c) :
    (s.putChan c x).chan c' = s.chan c' := by
  simp [State.chan, State.putChan, h]

@[simp] theorem putChan_putChan (x y : ChannelState) : (s.putChan c x).putChan c y = s.putChan c y := by
  simp [State.putChan]

@[simp] theorem putChan_chan : s.putChan c (s.chan c) = s := by
  simp [State.putChan, State.chan]

@[simp] theorem putChan_now (x : ChannelState) : (s.putChan c x).now = s.now := rfl
@[simp] theorem putChan_uptime (x : ChannelState) : (s.putChan c x).uptime = s.uptime := rfl
@[simp] theorem putChan_link (x : ChannelState) : (s.putChan c x).link = s.link := rfl
@[simp] theorem putChan_pending (x : ChannelState) : (s.putChan c x).pending = s.pending := rfl
@[simp] theorem drive_putChan (x : ChannelState) : (s.putChan c x).drive d = s.drive d := rfl

@[simp] theorem drive_putDriveRecord (x : Drive) : (s.putDriveRecord d x).drive d = x := by
  simp [State.drive, State.putDriveRecord]

@[simp] theorem drive_putDriveRecord_ne {d' : DriveNo} (x : Drive) (h : d' ≠ d) :
    (s.putDriveRecord d x).drive d' = s.drive d' := by
  simp [State.drive, State.putDriveRecord, h]

@[simp] theorem chan_putDriveRecord (x : Drive) : (s.putDriveRecord d x).chan c = s.chan c := rfl

theorem modChan_eq_putChan (f : ChannelState → ChannelState) : modChan c f s = s.putChan c (f (s.chan c)) := rfl

theorem modDrive_eq_putDriveRecord (f : Drive → Drive) :
    modDrive d f s = s.putDriveRecord d (f (s.drive d)) := rfl

theorem advanceTo_eq_at (t : Nat) : s.advanceTo t = s.at t := rfl

@[simp] theorem chan_at (t : Nat) : (s.at t).chan c = s.chan c := rfl
@[simp] theorem now_at (t : Nat) : (s.at t).now = max s.now t := rfl

/-! ## Markers, flags and pulses -/

theorem marker_eq_mark (k : MarkerKind) (a : Nat) :
    marker c k a s = s.putChan c ((s.chan c).mark s.uptime k a) := rfl

theorem raise_eq_flag (k : ChannelFlag) : raise c k s = s.putChan c ((s.chan c).flag k) := rfl

theorem mark_power (x : ChannelState) (t : Quad) (k : MarkerKind) (a : Nat) :
    (x.mark t k a).power = x.power := rfl

/-- A pulse's end is the record of R8. -/
theorem endPulse_eq_pulseEnded (l : Line) (held : Nat) :
    endPulse c l held s = s.putChan c ((s.chan c).pulseEnded s.now s.uptime l held) := by
  cases l <;>
    simp [endPulse, ChannelState.pulseEnded, ChannelState.mark, pulseMarker, Power.setPulse,
      Power.setWindowEnd, modChan_eq_putChan, State.after, Config.attribution, Config.msUnits]

/-! ## The arbiter's turn (R65, R68; log 33) -/

/-- While the steps of an end are carried out the arbiter does not act. -/
theorem arbitrate_of_settling (h : (s.chan c).tx.settling = true) : arbitrate c s = s := by
  simp [arbitrate, State.atBoundary, h]

/-- The arbiter's choice does not touch the mark of an end. -/
@[simp] theorem arbitrate_settling (t : Transmitter) (now divisor : Nat) :
    (t.arbitrate now divisor).settling = t.settling := by
  unfold Transmitter.arbitrate
  repeat' split
  all_goals rfl

/-- An end is: the mark set, the steps, the mark cleared, and the arbiter's one choice. -/
theorem settleEnd_eq (f : State → State) : settleEnd c f s =
    let t := f (s.putChan c { s.chan c with tx := { (s.chan c).tx with settling := true } })
    arbitrate c (t.putChan c { t.chan c with tx := { (t.chan c).tx with settling := false } }) := rfl

/-- After an end its mark is clear. -/
theorem settleEnd_settling (f : State → State) : ((settleEnd c f s).chan c).tx.settling = false := by
  rw [settleEnd_eq]
  simp only [arbitrate]
  split <;> simp

@[simp] theorem holdoffOver_none (now : Nat) (t : TriggerSlot) (h : t.holdoffEnd = none) :
    t.holdoffOver now = true := by
  simp [TriggerSlot.holdoffOver, h]

@[simp] theorem slotHoldoff_none (t : TriggerSlot) (h : t.holdoffEnd = none) : s.slotHoldoff t = 0 := by
  simp [State.slotHoldoff, h]

/-! ## Runs, requests and waiters that are not there -/

theorem tellRun_idle (e : RunEvent) (h : s.run c = none) : tellRun c e s = s := by
  simp [tellRun, h]

theorem finishWait_idle (o : StepOutcome) (h : s.run c = none) : finishWait c o s = s := by
  simp [finishWait, h]

theorem complete_none (st : Completion) (h : s.request c = none) : complete c st s = s := by
  have h' : (s.chan c).port.request = none := h
  have : Port.complete s.uptime st (s.chan c).port = (s.chan c).port := by simp [Port.complete, h']
  rw [complete, modPort_eq, modChan_eq_putChan, this]
  exact putChan_chan s c

theorem resumeRequest_none (h : s.request c = none) : resumeRequest c s = s := by
  simp [resumeRequest, h]

theorem servePages_nil (h : s.pageWaiters = []) : servePages s = s := by
  simp [servePages, servePageWaiters, h]

theorem serveEntries_nil (h : s.entryWaiters = []) : serveEntries s = s := by
  simp [serveEntries, serveEntryWaiters, h]

/-- A port that takes no request is left as it is (R114; log 21). -/
theorem serverRequest_left (r : Request) (act : DriveNo → State → State) (h : s.portTakes c = false) :
    serverRequest c r act s = s := by
  simp [serverRequest, h]

/-! ## A run's end -/

/-- After a run's end the context is IDLE, with the result and the uptime of the end (R162). -/
theorem endRun_context (x : RunResult) : ((endRun c x s).chan c).context = ⟨none, x, s.uptime⟩ := by
  have h1 : ∀ (l : Line) (w : Origin → Bool) (t : State), ((cutShort c l w t).chan c).context = (t.chan c).context ∧
      (cutShort c l w t).uptime = t.uptime := by
    intro l w t
    unfold cutShort
    split
    · exact ⟨rfl, rfl⟩
    · split
      · rw [endPulse_eq_pulseEnded]
        refine ⟨?_, rfl⟩
        cases l <;> simp [ChannelState.pulseEnded, ChannelState.mark]
      · exact ⟨rfl, rfl⟩
  have h2 : ∀ t : State, ((emptySlot c t).chan c).context = (t.chan c).context ∧
      (emptySlot c t).uptime = t.uptime := by
    intro t
    simp only [emptySlot, arbitrate]
    split <;> simp
  simp only [endRun, modContext_eq, raise_eq, marker_eq, chan_modChan, modChan_epoch_uptime]
  simp [h1, h2]

end Sys2Proof.Machine
end

