-- ==== Sys2Proof/Tests/Slice0.lean ====
section
/-! SUPPORT. The model's own tests: ill-formed commands refused, frames and their CRC written out from 11.2 and
11.6, small steps whose results are read from the spec's rules and examples, and for every statement with
hypotheses a state and operands that meet them. -/

set_option maxRecDepth 20000

namespace Sys2Proof.Tests

open Sys2Proof Sys2Proof.Machine

/-! ## The states the tests run from -/

/-- The state after a command. -/
def after (i : Instr) (s : State) : State :=
  match exec i s with
  | .next t => t
  | _ => s

/-- A state with channel 0's record changed. -/
def with0 (f : ChannelState → ChannelState) (s : State := State.reset) : State := s.putChan 0 (f (s.chan 0))

/-- Channel 0's record after a command. -/
def chan0 (i : Instr) (s : State) : ChannelState := (after i s).chan 0

/-- The newest reply after a command: its status and body. -/
def reply (i : Instr) (s : State) : Option (Status × List Byte) :=
  (after i s).link.replies.getLast?.map fun r => (r.status, r.body)

/-- Channel 0 in ON. -/
def onState : State := with0 fun x => { x with power := { x.power with state := .on } }

/-- Channel 0 LOCKED. -/
def lockedState : State := with0 fun x => { x with power := { x.power with locked := true } }

/-- Channel 0 in CUT. -/
def cutState : State := with0 fun x => { x with power := { x.power with state := .cut } }

/-- A descriptor of 512-byte blocks, ten of them. -/
def small : Descriptor := ⟨512, 10, false, 4, 0, 1000, 1000⟩

/-- Drive 0 loaded, bound to channel 0 and PRESENT, its port CONFIGURED. -/
def mediaState : State :=
  (with0 fun x => { x with port := { x.port with vbusRaw := true, vbus := true, state := .configured } }).putDriveRecord
    0 ⟨.present, some small, some 0, false, false, [], [], false, false⟩

/-- The same with the drive not bound. -/
def unboundState : State :=
  mediaState.putDriveRecord 0 ⟨.idle, some small, none, false, false, [], [], false, false⟩

/-- The same with the drive INSERTED and the change owed. -/
def insertedState : State :=
  mediaState.putDriveRecord 0 ⟨.inserted, some small, some 0, true, false, [], [], false, false⟩

/-- The same with the drive in EJECT_WAIT and the ejection asked for. -/
def askedState : State :=
  mediaState.putDriveRecord 0 ⟨.ejectWait, some small, some 0, false, true, [], [], false, false⟩

/-- The same with a SYNC in progress at the port. -/
def busyState : State :=
  mediaState.putChan 0 { mediaState.chan 0 with port := { (mediaState.chan 0).port with request := some (.plain .sync) } }

/-- The same with image page 0 CLEAN, every byte 7. -/
def cleanState : State :=
  { mediaState.putDriveRecord 0 ⟨.present, some small, some 0, false, false,
      [⟨0, .clean, List.replicate 4096 7⟩], [], false, false⟩ with cleanList := [⟨0, 0⟩] }

/-- The same with image page 0 DIRTY and queued. -/
def dirtyState : State :=
  { mediaState.putDriveRecord 0 ⟨.present, some small, some 0, false, false,
      [⟨0, .dirty, List.replicate 4096 7⟩], [], false, false⟩ with spillQueue := [⟨0, 0⟩] }

/-- A RUNNING context at step 0 of recipe 0. -/
def runOf (w : Option RunWait) : Run := ⟨0, 0, .none, w, none, 0, [], .host, 0⟩

/-- A COUNTING unit armed with a pattern. -/
def armedUnit (pattern : List Byte) : MatchUnit := ⟨pattern, false, true, .armed, 0, false, 0⟩

/-! ## Ill-formed commands are refused, the longest well-formed ones are not (R175, R177) -/

theorem test_sendConsole_too_long : Instr.wellFormed (.sendConsole 1 0 (List.replicate 4160 0)) = false := by
  simp only [Instr.wellFormed, fitsFrame, List.length_replicate]
  decide

theorem test_sendConsole_longest : Instr.wellFormed (.sendConsole 1 0 (List.replicate 4159 0)) = true := by
  simp only [Instr.wellFormed, fitsFrame, List.length_replicate]
  decide

theorem test_setPattern_too_long : Instr.wellFormed (.setPattern 1 0 0 0 0 (List.replicate 4157 0)) = false := by
  simp only [Instr.wellFormed, fitsFrame, List.length_replicate]
  decide

theorem test_setPattern_longest : Instr.wellFormed (.setPattern 1 0 0 0 0 (List.replicate 4156 0)) = true := by
  simp only [Instr.wellFormed, fitsFrame, List.length_replicate]
  decide

theorem test_fill_too_long : Instr.wellFormed (.fill 1 0 0 0 8 0 (List.replicate 4151 0)) = false := by
  simp only [Instr.wellFormed, fitsFrame, List.length_replicate]
  decide

theorem test_fill_longest : Instr.wellFormed (.fill 1 0 0 0 8 0 (List.replicate 4150 0)) = true := by
  simp only [Instr.wellFormed, fitsFrame, List.length_replicate]
  decide

theorem test_writeRecipe_too_long : Instr.wellFormed (.writeRecipe 1 0 (List.replicate 463 ⟨1, 0, 0⟩)) = false := by
  simp only [Instr.wellFormed, fitsFrame, List.length_replicate]
  decide

theorem test_writeRecipe_longest : Instr.wellFormed (.writeRecipe 1 0 (List.replicate 462 ⟨1, 0, 0⟩)) = true := by
  simp only [Instr.wellFormed, fitsFrame, List.length_replicate]
  decide

theorem test_writeKeyString_too_long : Instr.wellFormed (.writeKeyString 1 0 (List.replicate 4160 0)) = false := by
  simp only [Instr.wellFormed, fitsFrame, List.length_replicate]
  decide

theorem test_writeKeyString_longest : Instr.wellFormed (.writeKeyString 1 0 (List.replicate 4159 0)) = true := by
  simp only [Instr.wellFormed, fitsFrame, List.length_replicate]
  decide

theorem test_linkOther_request_byte : Instr.wellFormed (.linkOtherTransaction (some 0x5A) 0) = false := by decide

theorem test_linkOther_reply_byte : Instr.wellFormed (.linkOtherTransaction (some 0xA5) 0) = false := by decide

theorem test_linkOther_other_byte : Instr.wellFormed (.linkOtherTransaction (some 0x5B) 0) = true := by decide

/-! ## Frames and their CRC (R177, 11.6)

The CRC-16 of the nine ASCII digits "123456789" with this polynomial, initial value and order is the well-known
check value 0x29B1. -/

theorem test_crc_check_value : crc16 [0x31, 0x32, 0x33, 0x34, 0x35, 0x36, 0x37, 0x38, 0x39] = 0x29B1 := by decide

/-- Cut of channel 2 with tag 7: kind 0x10, tag, length 0x0001 high byte first, the channel, the CRC. -/
theorem test_cut_frame : readFrame [0x10, 0x07, 0x00, 0x01, 0x02, 0x57, 0x08] = some (.cut 7 2) := by decide

/-- Set Baud Mode FIXED at 115,200 = 0x0001C200 on channel 1: the rate's high byte first. -/
theorem test_setBaudMode_frame :
    readFrame [0x21, 0x01, 0x00, 0x06, 0x01, 0x01, 0x00, 0x01, 0xC2, 0x00, 0x55, 0x80] =
      some (.setBaudMode 1 1 1 0x0001C200) := by decide

/-- One wrong bit of the CRC makes the frame bad. -/
theorem test_cut_frame_bad_crc : readFrame [0x10, 0x07, 0x00, 0x01, 0x02, 0x57, 0x09] = none := by decide

/-- A body longer than its length field makes the frame bad. -/
theorem test_cut_frame_bad_length : readFrame [0x10, 0x07, 0x00, 0x00, 0x02, 0x57, 0x08] = none := by decide

/-- No row of the table gives bits, so no word spells a command (log 2). -/
theorem test_no_word_spells_a_command : decodeTableWord 8 0x10 = none := by decide

/-! ## Power, pulses and the lock (chapter 1) -/

/-- R4 in ON: CUT_HOLDOFF, the reply's state 0, and the markers POWER_CUT then POWER_OFF with cause CUT, 1. -/
theorem test_cut_in_on : (chan0 (.cut 1 0) onState).power.state = .cutHoldoff ∧
    (chan0 (.cut 1 0) onState).store.markers = [⟨.powerCut, 0, 0, 0⟩, ⟨.powerOff, 0, 0, 1⟩] ∧
    reply (.cut 1 0) onState = some (.ok, [0]) := by decide

/-- R4, R13: a LOCKED channel refuses, and keeps its state. -/
theorem test_cut_locked : reply (.cut 1 0) lockedState = some (.locked, []) ∧
    (chan0 (.cut 1 0) lockedState).power.state = .off := by decide

/-- R5 in CUT: OFF, the reply's state 2, with a POWER_SUPPLY marker. -/
theorem test_supply_in_cut : (chan0 (.supply 1 0) cutState).power.state = .off ∧
    (chan0 (.supply 1 0) cutState).store.markers = [⟨.powerSupply, 0, 0, 0⟩] ∧
    reply (.supply 1 0) cutState = some (.ok, [2, 0, 0]) := by decide

/-- R7: 5 ms is clamped to 20 on the button and to 10 on the reset line. -/
theorem test_pressButton_clamps : reply (.pressButton 1 0 5) .reset = some (.ok, [0x00, 0x14]) := by decide

theorem test_pulseReset_clamps : reply (.pulseReset 1 0 5) .reset = some (.ok, [0x00, 0x0A]) := by decide

/-- R7: a second pulse on an active line is BUSY; one on the other line is taken. -/
theorem test_pressButton_busy :
    reply (.pressButton 2 0 100) (after (.pressButton 1 0 100) .reset) = some (.busy, []) ∧
      reply (.pulseReset 2 0 100) (after (.pressButton 1 0 100) .reset) = some (.ok, [0x00, 0x64]) := by decide

/-- R8: 100 ms after a press its end releases the line, with a BUTTON marker of 100 at uptime 100. -/
theorem test_pulseEnd : (chan0 (.pulseEnd 0 .button) (after (.pressButton 1 0 100) .reset)).power.button = none ∧
    (chan0 (.pulseEnd 0 .button) (after (.pressButton 1 0 100) .reset)).store.markers =
      [⟨.button, 0, 100, 100⟩] := by decide

/-- R2, R3: power-good HIGH for 20 ms in OFF enters ON at uptime 20. -/
theorem test_pgQualified_enters_on :
    (chan0 (.pgQualified 0) (after (.pgChange 0 true) .reset)).power.state = .on ∧
      (chan0 (.pgQualified 0) (after (.pgChange 0 true) .reset)).store.markers =
        [⟨.powerOn, 0, 20, 0⟩] := by decide

/-- R6: 5 s after a cut in OFF the channel enters CUT. -/
theorem test_holdoffExpiry : (chan0 (.holdoffExpiry 0) (after (.cut 1 0) .reset)).power.state = .cut ∧
    (after (.holdoffExpiry 0) (after (.cut 1 0) .reset)).uptime = 5000 := by decide

/-- R11, R12: the lock qualifies after 50 ms, with a LOCK_ON marker. -/
theorem test_lockQualifiedLocked :
    (chan0 (.lockQualifiedLocked 0) (after (.lockChange 0 true) .reset)).power.locked = true ∧
      (chan0 (.lockQualifiedLocked 0) (after (.lockChange 0 true) .reset)).store.markers =
        [⟨.lockOn, 0, 50, 0⟩] := by decide

/-! ## The monitors (chapter 2) -/

/-- 2.1: the divisor of 115,200 is 2222 and that of 9,600 is 26,667. -/
theorem test_divisors : divisorOf 115200 = 2222 ∧ divisorOf 9600 = 26667 := by decide

/-- R23: 64,000,000 / 115,200 = 555.6 ticks, so a shortest run of 556 is a candidate; 15 runs are sparse. -/
theorem test_verdicts : verdictOf 16 (some 556) 5 = .candidate 7 ∧ verdictOf 15 (some 556) 5 = .sparse := by
  decide +kernel

/-- R30: a rate of 100 is clamped to 300, with D 853,333 = 0x000D0555. -/
theorem test_setBaudMode_clamps :
    (reply (.setBaudMode 1 0 1 100) .reset).map (fun r => (r.1, r.2.take 8)) =
      some (.ok, [0x00, 0x00, 0x01, 0x2C, 0x00, 0x0D, 0x05, 0x55]) := by decide

/-- R31: a window of 149 ms is taken down to 100, a tolerance of 1 up to 2. -/
theorem test_setBaudSettings_clamps :
    reply (.setBaudSettings 1 0 149 1 9 0 1) .reset = some (.ok, [0x00, 0x64, 2, 8, 1, 1]) := by decide

/-- R39: the watch enabled in ON opens its gate. -/
theorem test_setHeartbeatSettings_opens :
    (chan0 (.setHeartbeatSettings 1 0 1 1000 100 1 3) onState).watch.state = .watching := by decide

/-- R36: three low windows in a row are a HANG at the third. -/
theorem test_hang_at_third_window :
    (after (.heartbeatWindowEnd 0) (after (.heartbeatWindowEnd 0) (after (.heartbeatWindowEnd 0)
      (after (.setHeartbeatSettings 1 0 1 1000 100 1 3) onState)))).uptime = 3000 ∧
    (chan0 (.heartbeatWindowEnd 0) (after (.heartbeatWindowEnd 0) (after (.heartbeatWindowEnd 0)
      (after (.setHeartbeatSettings 1 0 1 1000 100 1 3) onState)))).watch.state = .hung := by decide

/-! ## Console capture and transmit (chapters 3 and 4) -/

/-- R43, R44: an accepted byte is captured at next, on a page taken for it. -/
theorem test_acceptByte_captures :
    ((acceptByte 0 0x41 State.reset).chan 0).store.pages = [⟨0, [0x41]⟩] ∧
      ((acceptByte 0 0x41 State.reset).chan 0).store.next = 1 := by decide

/-- R61: refused unless ON. -/
theorem test_sendConsole_off : reply (.sendConsole 1 0 [0x41]) .reset = some (.wrongState, []) := by decide

/-- R61, R60: in ON the arbiter takes the first of two bytes at once, and the second waits. -/
theorem test_sendConsole_on : (chan0 (.sendConsole 1 0 [0x41, 0x42]) onState).tx.queue = [0x42] ∧
    (chan0 (.sendConsole 1 0 [0x41, 0x42]) onState).tx.char.map (·.byte) = some 0x41 := by decide

/-- R60: the character ends ten bit times later, 22,220 clock units at D 2222, and the next byte starts. -/
theorem test_characterEnd :
    (after (.characterEnd 0) (after (.sendConsole 1 0 [0x41, 0x42]) onState)).now = 22220 ∧
      (chan0 (.characterEnd 0) (after (.sendConsole 1 0 [0x41, 0x42]) onState)).tx.char.map (·.byte) =
        some 0x42 := by decide

/-- R67: a break of 5 ms is clamped to 10, and a second one is BUSY. -/
theorem test_sendBreak : reply (.sendBreak 1 0 5) onState = some (.ok, [0x00, 0x0A]) ∧
    reply (.sendBreak 2 0 100) (after (.sendBreak 1 0 5) onState) = some (.busy, []) := by decide

/-- R68: its end writes BREAK_SENT with the ms it was held. -/
theorem test_breakEnd : (chan0 (.breakEnd 0) (after (.sendBreak 1 0 5) onState)).store.markers =
    [⟨.breakSent, 0, 10, 10⟩] := by decide

/-- R60: while 0x41 = 01000001 goes out the line is low for the start bit and, a divisor later, high for the
least significant bit, then low for the next; idle it is high. -/
theorem test_txd :
    let s := after (.sendConsole 1 0 [0x41]) onState
    s.txd 0 = false ∧ (s.at 2222).txd 0 = true ∧ (s.at 4444).txd 0 = false ∧ onState.txd 0 = true := by decide

/-- The run of `SEND BREAK, SEND KEYS 0 every 500 ms, SEND BREAK` that waits for its first break. -/
def breaksState : State :=
  after (.runRecipe 3 0 1) (after (.writeRecipe 2 1 [⟨15, 50, 0⟩, ⟨12, 0, 500⟩, ⟨15, 20, 0⟩])
    (after (.writeKeyString 1 0 [0x41]) onState))

/-- R68: the run is told in step 3, before the arbiter chooses in step 4, so that the second break is on the line
and the pass waits, due. -/
theorem test_breakEnd_tells_before_choosing :
    let x := chan0 (.breakEnd 0) breaksState
    x.tx.brk.map (·.since.isSome) = some true ∧ x.tx.char = none ∧ x.tx.slot.map (·.due) = some true := by decide

/-- R74, R180: with no slot and no break every byte of those items is 0; the stall limit is 10. -/
theorem test_transmitStatus_reset : reply (.transmitStatus 1 0) .reset =
    some (.ok, List.replicate 31 0 ++ [10]) := by decide

/-! ## Patterns (chapter 5) -/

/-- R78's own example: with "aab", after "aaa" the progress is 2, and the "b" completes the match. -/
theorem test_aab : (([0x61, 0x61, 0x61] : List Byte).foldl (fun u b => u.see b)
      (armedUnit [0x61, 0x61, 0x62])).progress = 2 ∧
    (([0x61, 0x61, 0x61] : List Byte).foldl (fun u b => u.see b)
      (armedUnit [0x61, 0x61, 0x62])).completes 0x62 = true := by decide

/-- R83: an empty pattern makes the unit UNSET. -/
theorem test_setPattern_empties :
    (chan0 (.setPattern 1 0 0 0 0 []) (after (.setPattern 1 0 0 0 0 [0x61]) .reset)).units.get 0 =
      ⟨[], false, false, .unset, 0, false, 0⟩ := by decide

/-- R84: arming an UNSET unit is refused. -/
theorem test_armMatch_unset : reply (.armMatch 1 0 0) .reset = some (.wrongState, []) := by decide

/-! ## Drives, ports, wants and spills (chapters 6 to 8) -/

/-- R105: an IDLE drive is bound and a CONFIGURED port's server owed the change. -/
theorem test_insert : ((after (.insert 1 0 0) (mediaState.putDriveRecord 0
      ⟨.idle, some small, none, false, false, [], [], false, false⟩)).drive 0).state = .inserted := by decide

/-- R117: a read of a cached block hands over its bytes and completes GOOD. -/
theorem test_read_cached : (chan0 (.readBlocks 0 1 1) cleanState).port.last = some ⟨.good, 1, 0⟩ := by
  decide

/-- R129, R133: a read of an absent page posts a want; the wait ends NOT READY RETRY at the want's deadline. -/
theorem test_read_absent : (after (.readBlocks 0 0 1) mediaState).wants.map (·.page) = [0] ∧
    (chan0 (.wantDeadline 0) (after (.readBlocks 0 0 1) mediaState)).port.last.map (·.status) =
      some .notReadyRetry := by decide

/-- R139, R140: the queue's head is handed out, and a STORED page is CLEAN. -/
theorem test_spill : ((after (.takeSpill 1) dirtyState).page 0 0).map (·.state) = some .spilling ∧
    ((after (.spillDone 2 0 0 0 0) (after (.takeSpill 1) dirtyState)).page 0 0).map (·.state) =
      some .clean := by decide

theorem test_takeSpill_empty : reply (.takeSpill 1) .reset = some (.empty, []) := by decide

/-! ## Recipes, triggers and changes (chapters 9 and 10) -/

/-- R144, R148: a recipe of one DELAY runs, and ends COMPLETE when the delay is over. -/
theorem test_delay_run :
    (chan0 (.delayEnd 0) (after (.runRecipe 2 0 1) (after (.writeRecipe 1 1 [⟨11, 500, 0⟩]) .reset))).context =
      ⟨none, .complete, 500⟩ := by decide

/-- R144: kinds 0 and 22 are refused. -/
theorem test_writeRecipe_kinds : reply (.writeRecipe 1 1 [⟨0, 0, 0⟩]) .reset = some (.badValue, []) ∧
    reply (.writeRecipe 1 1 [⟨22, 0, 0⟩]) .reset = some (.badValue, []) := by decide

/-- R160: a loop of instant steps ends LOOP. -/
theorem test_loop :
    (chan0 (.runRecipe 2 0 1) (after (.writeRecipe 1 1 [⟨18, 0, 0⟩]) .reset)).context.result = .loop := by
  decide

/-- R165: a hold-off of 5 s is clamped to 10; a slot with no recipe is OFF and cannot be rearmed (R169). -/
theorem test_setTrigger_clamps : ((chan0 (.setTrigger 1 0 0 0 0 0 0 5 3) .reset).slots.get 0).holdoff = 10 ∧
    reply (.rearmTrigger 2 0 0) (after (.setTrigger 1 0 0 0 0 0 0 5 3) .reset) = some (.wrongState, []) := by
  decide

/-- Slot 0 of channel 0 fires recipe 1 on HANG, held off to the present moment. -/
def heldState : State :=
  with0 (fun x => { x with slots := x.slots.set 0 ⟨.hang, some 1, 10, 0, 1, some 0, none, .armed⟩ })
    (after (.writeRecipe 1 1 [⟨11, 500, 0⟩]) .reset)

/-- R168: of the event and the expiry at one moment, the event taken first does not fire, the event taken after
does. -/
theorem test_holdoff_tie : (slotFires 0 .hang 0 heldState).isSome = false ∧
    (slotFires 0 .hang 0 (after (.triggerHoldoffExpiry 0 0) heldState)).isSome = true := by decide

/-- R171, R173: RESTARTED is set after reset and cleared by Read Changes. -/
theorem test_readChanges : State.reset.restarted = true ∧ (after (.readChanges 1) .reset).restarted = false := by
  decide

/-! ## The link (chapter 11) -/

/-- R181: Identify. -/
theorem test_identify : reply (.identify 5) .reset =
    some (.ok, [0x08, 0x40, 1, 8, 4, 0x02, 0x00, 32, 8, 0, 0, 0, 0]) := by decide

/-- R176: after one reply the status byte shows READY and REPLY. -/
theorem test_statusByte : State.reset.statusByte = 0x01 ∧ (after (.identify 5) .reset).statusByte = 0x03 := by
  decide

/-- R179: a reply read in full removes the reply, one byte short keeps it. The frame is 5 + 13 + 2 bytes. -/
theorem test_replyRead : (after (.replyRead 20) (after (.identify 5) .reset)).link.replies = [] ∧
    (after (.replyRead 19) (after (.identify 5) .reset)).link.replies.length = 1 := by decide

/-- R177: a bad frame sets REJECT. -/
theorem test_badFrame : (after (.badFrame [1, 2, 3]) .reset).link.reject = true := by decide

/-- R182: Part Reset's reply is the only one. -/
theorem test_partReset : (after (.partReset 9) (after (.identify 5) .reset)).link.replies =
    [⟨0x02, 9, .ok, []⟩] := by decide

/-- One step takes the command at the front. -/
theorem test_step : ∃ t, step (State.reset.withPending [.identify 5, .identify 6]) = .next t ∧
    t.pending = [.identify 6] ∧ t.link.replies.length = 1 := ⟨_, rfl, by decide⟩

/-! ## Witnesses: the hypotheses of the statements are met

Each is named after its statement. Where a statement has clauses with conditions of their own, each clause has
operands at its boundary. -/

theorem witness_StepRunsTheFrontCommand :
    (State.reset.withPending [.identify 5]).pending = .identify 5 :: [] := rfl

theorem witness_AnEmptyQueueWaits : State.reset.pending = [] := rfl

theorem witness_ready : State.reset.ready = true := by decide

/-- Seven replies queued still show READY, eight do not: the two clauses of the statement. -/
theorem witness_EachRequestIsAnsweredOnceOrIgnored :
    Instr.request? (.cut 1 0) = some ⟨0x10, 1, [0]⟩ ∧ Instr.wellFormed (.cut 1 0) = true ∧
    (State.reset.withLink ⟨List.replicate 7 ⟨1, 1, .ok, []⟩, false, [], 7⟩).ready = true ∧
    (State.reset.withLink ⟨List.replicate 8 ⟨1, 1, .ok, []⟩, false, [], 8⟩).ready = false ∧
    Instr.request? (.pgChange 0 true) = none := by decide

theorem witness_CutActsByPowerState : onState.ready = true := by decide

theorem witness_SupplyActsByPowerState : cutState.ready = true := by decide

theorem witness_PulsesStartOnTheirLine : State.reset.ready = true := by decide

theorem witness_PowerSettingsAreClamped : State.reset.ready = true := by decide

theorem witness_PowerStatusReportsTheRecord : onState.ready = true := by decide

theorem witness_RelearnSendsTheFinderHunting : State.reset.ready = true := by decide

theorem witness_MonitorSettingsAreReplaced : onState.ready = true := by decide

theorem witness_CaptureLimitsKeepTheFloors : State.reset.ready = true := by decide

theorem witness_ConsoleReadReturnsTheRange : State.reset.ready = true := by decide

theorem witness_FlushEmptiesTheQueue : onState.ready = true := by decide

theorem witness_TheTransmitterActsAtItsMoments : onState.ready = true := by decide

theorem witness_DrivesAreLoadedAndUnloaded : State.reset.ready = true := by decide

theorem witness_AnInsertBindsAnIdleDrive : mediaState.ready = true := by decide

theorem witness_AnEjectActsByStateLockAndForce : mediaState.ready = true := by decide

theorem witness_PortsMoveByPresenceVbusAndBus : State.reset.ready = true := by decide

theorem witness_RunsStartAndStop : State.reset.ready = true := by decide

theorem witness_SlotsAreSetRearmedAndHeldOff : State.reset.ready = true := by decide

theorem witness_ChangesAreReadOnceAndMasked : State.reset.ready = true := by decide

theorem witness_ResetsLeaveTheirValues : mediaState.ready = true := by decide

theorem witness_AChannelResetKeepsPowerAndSettings : onState.ready = true := by decide

theorem witness_SendConsoleAndSendBreakAreTaken : onState.ready = true ∧ (List.replicate 4159 (0 : Byte)).length ≤ 4159 := by
  refine ⟨by decide, ?_⟩
  rw [List.length_replicate]

theorem witness_PatternsAreSetArmedAndDisarmed : onState.ready = true ∧ (List.replicate 4156 (0 : Byte)).length ≤ 4156 := by
  refine ⟨by decide, ?_⟩
  rw [List.length_replicate]

theorem witness_RecipesAndKeyStringsAreWritten : State.reset.ready = true ∧
    (List.replicate 462 (⟨1, 100, 0⟩ : StepRecord)).length ≤ 462 ∧
    (List.replicate 4159 (0 : Byte)).length ≤ 4159 := by
  refine ⟨by decide, ?_, ?_⟩ <;> rw [List.length_replicate]

theorem witness_AHitActsInOrder : (with0 fun x => { x with units := x.units.set 0 (armedUnit [0x61]) }).ready = true ∧
    (armedUnit [0x61]).completes 0x61 = true ∧ (armedUnit [0x61]).completes 0x62 = false ∧
    ({ armedUnit [0x61] with state := .hit } : MatchUnit).state ≠ .armed := by decide

/-- The rate 115,200 has the smallest error for a run of 556 ticks; 300 and 1,000,000 are the bounds. -/
theorem witness_TheVerdictTakesTheNearestRate :
    let error (k : RateIx) : Nat := (((556 : Nat) * tableRate k : Int) - 64000000).natAbs
    (∀ k : RateIx, error 7 < error k ∨ error 7 = error k ∧ 7 ≤ k) ∧ (300 ≤ 300 ∧ 300 ≤ 1000000) ∧
      300 ≤ 1000000 ∧ 1000000 ≤ 1000000 := by decide

/-- An armed COUNTING unit that has seen a match and a ONE_SHOT unit that has not; the bytes at the ends of the
folded range and outside it. -/
theorem witness_MatchProgressFollowsTheWholeText :
    (armedUnit [0x61]).state = .armed ∧ (armedUnit [0x61]).progress = 0 ∧
    (([0x61, 0x62] : List Byte).foldl (fun u b => u.see b) (armedUnit [0x61])).state = .armed ∧
    (([0x62] : List Byte).foldl (fun (u : MatchUnit) b => u.see b) { armedUnit [0x61] with counting := false }).state = .armed ∧
    (armedUnit [0x61]).pattern ≠ [] ∧
    (0x41 ≤ (0x41 : Byte).toNat ∧ (0x41 : Byte).toNat ≤ 0x5A) ∧
    (0x41 ≤ (0x5A : Byte).toNat ∧ (0x5A : Byte).toNat ≤ 0x5A) ∧
    (0x40 : Byte).toNat < 0x41 ∧ 0x5A < (0x5B : Byte).toNat ∧
    (armedUnit [0x61]).completes 0x61 = true ∧ (armedUnit [0x61]).completes 0x62 = false := by decide

theorem witness_TheImageGeometryCoversTheCapacity :
    ((⟨512, 1, false, 1, 0, 100, 100⟩ : Descriptor).blockSize = 512 ∧ 1 ≤ small.capacity) ∧
    (⟨4096, 1, false, 1, 0, 100, 100⟩ : Descriptor).blockSize = 4096 := by decide

theorem witness_EntryToDrainingActsInOrder : (mediaState.drive 0).bound = some 0 ∧ mediaState.MapsOrdered ∧
    (mediaState.wants.map (·.number)).Nodup := by
  refine ⟨by decide, ?_, by decide⟩
  show ∀ d : DriveNo, mapWf (mediaState.drive d).map = true
  decide

/-- A SYNC at channel 0's port, for each clause: a port that takes none, a request in progress already, no drive
bound, a drive that owes the change, and one whose host asked for the medium. -/
theorem witness_ServerRequestsAreExaminedFirst : serverRequestOf 0 (.sync 0) = true ∧
    (¬ ((State.reset.chan 0).port.state = .configured ∧ (State.reset.chan 0).port.request = none)) ∧
    (¬ ((busyState.chan 0).port.state = .configured ∧ (busyState.chan 0).port.request = none)) ∧
    ((unboundState.chan 0).port.state = .configured ∧ (unboundState.chan 0).port.request = none ∧
      unboundState.boundDrive 0 = none) ∧
    ((insertedState.chan 0).port.state = .configured ∧ (insertedState.chan 0).port.request = none ∧
      insertedState.boundDrive 0 = some 0 ∧ (insertedState.drive 0).state = .inserted) ∧
    ((askedState.chan 0).port.state = .configured ∧ (askedState.chan 0).port.request = none ∧
      askedState.boundDrive 0 = some 0 ∧ (askedState.drive 0).state ≠ .inserted ∧
      (askedState.drive 0).ejectRequested = true) := by decide

theorem mediaState_carriesOut : mediaState.carriesOut 0 0 := by
  show (mediaState.chan 0).port.state = .configured ∧ (mediaState.chan 0).port.request = none ∧
    mediaState.boundDrive 0 = some 0 ∧ (mediaState.drive 0).state ≠ .inserted ∧
    (mediaState.drive 0).ejectRequested = false
  decide

theorem witness_ServerRequestsAreCarriedOut : ∃ s c d, State.carriesOut s c d := ⟨_, _, _, mediaState_carriesOut⟩

/-- A read of blocks 0 to 7 of the one cached page, 7 being its last. -/
theorem witness_AReadOfCachedPagesHandsTheBlocks : cleanState.carriesOut 0 0 ∧
    (cleanState.descriptor 0).blockSize = 512 ∧ 1 ≤ 8 ∧ 8 ≤ 128 ∧ 0 + 8 ≤ (cleanState.descriptor 0).capacity ∧
    ∀ n, 0 ≤ n → n < 0 + 8 → ∃ p, cleanState.page 0 (n / (cleanState.descriptor 0).blocksPerPage) = some p ∧
      p.state ≠ .filling ∧ p.data.length = 4096 := by
  have hc : cleanState.carriesOut 0 0 := by
    show (cleanState.chan 0).port.state = .configured ∧ (cleanState.chan 0).port.request = none ∧
      cleanState.boundDrive 0 = some 0 ∧ (cleanState.drive 0).state ≠ .inserted ∧
      (cleanState.drive 0).ejectRequested = false
    decide
  refine ⟨hc, by decide, by decide, by decide, by decide, fun n _ h => ⟨⟨0, .clean, List.replicate 4096 7⟩, ?_⟩⟩
  have h8 : (cleanState.descriptor 0).blocksPerPage = 8 := by decide
  have : n / (cleanState.descriptor 0).blocksPerPage = 0 := by rw [h8]; omega
  rw [this]
  exact ⟨rfl, by decide, List.length_replicate⟩

theorem witness_WantsAreTakenFilledAndFailed : mediaState.ready = true ∧
    (mediaState.wants.map (·.number)).Nodup ∧ (List.replicate 4150 (0 : Byte)).length ≤ 4150 := by
  refine ⟨by decide, by decide, ?_⟩
  rw [List.length_replicate]

/-- A page queued with no spill in flight, and eight of them: the two clauses of a queue that is not empty. -/
theorem witness_SpillsAreTakenAndEnded : dirtyState.ready = true ∧ dirtyState.spillQueue = ⟨0, 0⟩ :: [] ∧
    dirtyState.spills.length < 8 ∧ (dirtyState.page 0 0).isSome = true ∧
    8 ≤ (List.replicate 8 (⟨0, 0, 0, 0⟩ : Spill)).length ∧ ([0] : List Byte).length < 2 ∧ 2 ≤ 256 := by decide

theorem witness_StoredStepsReadBackAsThemselves : (stepOf ⟨1, 100, 0⟩).isSome = true ∧
    (stepOf ⟨21, 0, 0⟩).isSome = true ∧ 21 < (22 : Byte).toNat := by decide

theorem witness_StepsActByTheirKind : StepOutcome.met ≠ (runOf none).outcome := by decide

theorem witness_BadFramesOnlySetReject : readFrame [1, 2, 3] = none := by decide

theorem witness_RepliesAreReadOldestFirst : (0x00 : Byte) ≠ 0x5A ∧ (0x00 : Byte) ≠ 0xA5 := by decide

theorem witness_FramesReadBackAsTheirRequests : Instr.wellFormed (.cut 1 0) = true ∧
    Instr.request? (.cut 1 0) = some ⟨0x10, 1, [0]⟩ ∧
    readFrame [0x10, 0x07, 0x00, 0x01, 0x02, 0x57, 0x08] = some (.cut 7 2) := by decide

/-- The last identifier that exists and the first that does not, for channels and for units and drives. -/
theorem witness_StatusRequestsChangeNothing : State.reset.ready = true ∧ (7 : Byte).toNat < 8 ∧
    8 ≤ (8 : Byte).toNat ∧ (3 : Byte).toNat < 4 ∧ 4 ≤ (4 : Byte).toNat ∧
    ¬ ((8 : Byte).toNat < 8 ∧ (3 : Byte).toNat < 4) := by decide

theorem onState_lockLaw : onState.LockLaw := by
  show ∀ c : Channel, (onState.chan c).power.locked = true → (onState.chan c).power.button = none ∧
    (onState.chan c).power.reset = none ∧ (onState.chan c).power.pendingSupply = false ∧
    (onState.chan c).context.run = none
  decide

theorem witness_TheLockLawIsKept : ∃ s t, State.LockLaw s ∧ step s = .next t := ⟨onState, _, onState_lockLaw, rfl⟩

theorem cleanState_tablesFit : cleanState.TablesFit := by
  show cleanState.wants.length ≤ 32 ∧ cleanState.spills.length ≤ 8 ∧ (cleanState.wants.map (·.number)).Nodup ∧
    (cleanState.spills.map (·.number)).Nodup
  decide

/-- A store after reset obeys the law, at both bounds that its empty lists allow. -/
theorem emptyStore_law : Store.Law ⟨[], 0, 0, [], 8, 32⟩ := by
  refine ⟨by decide, by decide, by decide, by decide, ?_, by decide, by decide, by decide⟩
  intro k p h
  simp at h

theorem cleanState_storesLaw : cleanState.StoresLaw := by
  have h : ∀ c : Channel, (cleanState.chan c).store = ⟨[], 0, 0, [], 8, 32⟩ := by decide
  intro c
  rw [h c]
  exact emptyStore_law

/-- A store with a captured byte and a marker at its end. -/
def storedState : State :=
  cleanState.putChan 0 { cleanState.chan 0 with store := ⟨[⟨0, [0x41]⟩], 1, 0, [⟨.hang, 1, 5, 0⟩], 2, 64⟩ }

theorem storedState_storesLaw : storedState.StoresLaw := by
  have h0 : (storedState.chan 0).store = ⟨[⟨0, [0x41]⟩], 1, 0, [⟨.hang, 1, 5, 0⟩], 2, 64⟩ := rfl
  have h : ∀ c : Channel, c ≠ 0 → (storedState.chan c).store = ⟨[], 0, 0, [], 8, 32⟩ := by decide
  intro c
  by_cases hc : c = 0
  · rw [hc, h0]
    refine ⟨by decide, by decide, by decide, by decide, ?_, by decide, by decide, by decide⟩
    intro k p hk
    rcases k with _ | k
    · simp only [List.getElem?_cons_zero, Option.some.injEq] at hk
      subst hk
      decide
    · simp at hk
  · rw [h c hc]
    exact emptyStore_law

/-- A run that waits, with four return entries. -/
def waitingState : State :=
  with0 fun x => { x with context :=
    ⟨some { runOf (some .heartbeat) with stack := List.replicate 4 ⟨1, 2, .met⟩ }, .none, 0⟩ }

theorem waitingState_runsLaw : waitingState.RunsLaw := by
  show ∀ c : Channel, ∀ r ∈ (waitingState.chan c).context.run, r.wait.isSome = true ∧ r.stack.length ≤ 4
  decide

theorem onState_settled : onState.Settled := by
  show ∀ c : Channel, (onState.chan c).tx.settling = false
  decide

/-- The premise of each clause. -/
theorem witness_TheBoundsAreKept :
    (∃ s t, (State.RepliesFit s ∧ State.ConsolesFit s ∧ State.TablesFit s) ∧ step s = .next t) ∧
    (∃ s t, State.StoresLaw s ∧ step s = .next t) ∧ (∃ s t, State.RunsLaw s ∧ step s = .next t) ∧
    ∃ s t, State.Settled s ∧ step s = .next t := by
  refine ⟨⟨cleanState, _, ⟨?_, ?_, cleanState_tablesFit⟩, rfl⟩, ⟨storedState, _, storedState_storesLaw, rfl⟩,
    ⟨waitingState, _, waitingState_runsLaw, rfl⟩, ⟨onState, _, onState_settled, rfl⟩⟩
  · show cleanState.link.replies.length ≤ 8
    decide
  · show ∀ c : Channel, (cleanState.chan c).store.markers.length ≤ 64 ∧ (cleanState.chan c).tx.queue.length ≤ 512
    decide

/-- The pages of `cleanState`: image page 0 of drive 0 and no other. -/
theorem cleanState_page (d : DriveNo) (i : Nat) : cleanState.page d i =
    if d = 0 ∧ i = 0 then some ⟨0, .clean, List.replicate 4096 7⟩ else none := by
  have h0 : (cleanState.drive 0).map = [⟨0, .clean, List.replicate 4096 7⟩] := rfl
  have h1 : ∀ d : DriveNo, d ≠ 0 → (cleanState.drive d).map = [] := by decide
  by_cases hd : d = 0
  · subst hd
    by_cases hi : i = 0
    · subst hi; rfl
    · simp [State.page, h0, mapFind, hi, Ne.symm hi]
  · simp [State.page, h1 d hd, mapFind, hd]

theorem cleanState_cacheLaw : cleanState.CacheLaw := by
  have hl : cleanState.cleanList = [⟨0, 0⟩] := rfl
  have hq : cleanState.spillQueue = [] := rfl
  have hs : cleanState.spills = [] := rfl
  have hw : cleanState.wants = [] := rfl
  refine ⟨?_, by rw [hl]; simp, by rw [hq]; simp, by rw [hs]; simp, by rw [hw]; simp, ?_, ?_, ?_, ?_, ?_⟩
  · show ∀ d : DriveNo, mapWf (cleanState.drive d).map = true
    decide
  · intro d i
    rw [cleanState_page, hl]
    by_cases h : d = 0 ∧ i = 0 <;> simp_all
  · intro d i
    rw [cleanState_page, hq]
    by_cases h : d = 0 ∧ i = 0 <;> simp_all
  · intro d i
    rw [cleanState_page, hs]
    by_cases h : d = 0 ∧ i = 0 <;> simp_all
  · intro d i
    rw [cleanState_page, hw]
    by_cases h : d = 0 ∧ i = 0 <;> simp_all
  · intro d p hp _
    have h0 : (cleanState.drive 0).map = [⟨0, .clean, List.replicate 4096 7⟩] := rfl
    have h1 : ∀ d : DriveNo, d ≠ 0 → (cleanState.drive d).map = [] := by decide
    by_cases hd : d = 0
    · subst hd
      rw [h0, List.mem_singleton] at hp
      subst hp
      exact List.length_replicate
    · rw [h1 d hd] at hp
      simp at hp

theorem cleanState_drivesLaw : cleanState.DrivesLaw := by
  unfold State.DrivesLaw Descriptor.Law
  decide

theorem witness_TheCacheLawIsKept :
    ∃ s t, (State.TablesFit s ∧ State.CacheLaw s ∧ State.DrivesLaw s) ∧ step s = .next t :=
  ⟨cleanState, _, ⟨cleanState_tablesFit, cleanState_cacheLaw, cleanState_drivesLaw⟩, rfl⟩

theorem witness_TheFloorGuaranteeIsKept :
    ∃ s t, (State.TablesFit s ∧ State.CacheLaw s ∧ State.DrivesLaw s ∧ State.StoresLaw s ∧ State.PoolLaw s) ∧
      step s = .next t := by
  refine ⟨cleanState, _, ⟨cleanState_tablesFit, cleanState_cacheLaw, cleanState_drivesLaw, cleanState_storesLaw, ?_⟩,
    rfl⟩
  show cleanState.consolePages + cleanState.cachePages ≤ 512 ∧ cleanState.unmet ≤ cleanState.reclaimable
  decide

end Sys2Proof.Tests
end

/-! # The power requests' pulses (R7) -/

namespace Sys2Proof.Machine

section Pulses

variable {s : State} {c : Channel}

/-! ## A power request's checks (R4, R5, R7, R13) -/

theorem powerGuard_refused {h : Handler} {st : Status} (hp : s.powerRefusal c = some st) :
    powerGuard c h s = (s, ⟨st, []⟩) := by
  unfold State.powerRefusal at hp
  unfold powerGuard State.isLocked State.running State.run
  split at hp
  · simp_all [answers]
  · split at hp <;> simp_all [answers]

theorem powerGuard_passed {h : Handler} (hp : s.powerRefusal c = none) : powerGuard c h s = h s := by
  unfold State.powerRefusal at hp
  unfold powerGuard State.isLocked State.running State.run
  split at hp
  · cases hp
  · split at hp
    · cases hp
    · simp_all

/-! ## A pulse asked for by the host (R7) -/

variable {l : Line} {lo hi : Nat} {ch : Byte} {duration : Half}

theorem hostPulse_refused {st : Status} (hc : ident? 8 ch = some c) (hp : s.powerRefusal c = some st) :
    hostPulse l lo hi ch duration s = (s, ⟨st, []⟩) := by
  rw [hostPulse, onChannel_some hc, powerGuard_refused hp]

theorem hostPulse_busy (hc : ident? 8 ch = some c) (hp : s.powerRefusal c = none)
    (hb : ((s.chan c).power.pulse l).isSome = true) :
    hostPulse l lo hi ch duration s = (s, ⟨.busy, []⟩) := by
  rw [hostPulse, onChannel_some hc, powerGuard_passed hp, if_pos hb]
  rfl

theorem hostPulse_started (hc : ident? 8 ch = some c) (hp : s.powerRefusal c = none)
    (hb : ¬ ((s.chan c).power.pulse l).isSome = true) :
    hostPulse l lo hi ch duration s =
      (startPulse c l .host (clamp lo hi duration.toNat) s, ⟨.ok, put2 (clamp lo hi duration.toNat)⟩) := by
  rw [hostPulse, onChannel_some hc, powerGuard_passed hp, if_neg hb]
  rfl

/-- A host's pulse request on either line: the four checks of R7 in order, then the record of the line. -/
theorem takeRequest_hostPulse {i : Instr} {f : RequestFrame} (hf : i.request? = some f) (hr : s.ready = true)
    (hfit : fitsFrame f.body.length = true) :
    takeRequest i (hostPulse l lo hi ch duration) s =
      match ident? 8 ch with
      | none => s.answered i s .badValue []
      | some c =>
        match s.powerRefusal c with
        | some st => s.answered i s st []
        | none =>
          if ((s.chan c).power.pulse l).isSome then s.answered i s .busy []
          else s.answered i (startPulse c l .host (clamp lo hi duration.toNat) s) .ok
            (put2 (clamp lo hi duration.toNat)) := by
  have answered {t : State} {st : Status} {body : List Byte} :=
    takeRequest_answered (h := hostPulse l lo hi ch duration) (t := t) (st := st) (body := body) hf hr hfit
  cases hc : ident? 8 ch with
  | none => exact answered (onChannel_none hc)
  | some c =>
    cases hp : s.powerRefusal c with
    | some st =>
      simp only [hp]
      exact answered (hostPulse_refused hc hp)
    | none =>
      simp only [hp]
      split
      next hb => exact answered (hostPulse_busy hc hp hb)
      next hb =>
        exact answered (t := startPulse c l .host (clamp lo hi duration.toNat) s) (hostPulse_started hc hp hb)

end Pulses

/-- Settles O6: both lines take one path, and the record replaced is the line's own. -/
theorem pulsesStartOnTheirLine : Obligations.PulsesStartOnTheirLine := by
  refine ⟨fun s tag ch duration hr => ?_, fun s tag ch duration hr => ?_, fun s c r n => ?_, fun s c r n => ?_⟩
  · exact congrArg Host.Outcome.next (takeRequest_hostPulse (l := .button) rfl hr rfl)
  · exact congrArg Host.Outcome.next (takeRequest_hostPulse (l := .reset) rfl hr rfl)
  · rfl
  · rfl

end Sys2Proof.Machine

/-! # The law of the service lock (R19, R20): what leaves alone all that it reads -/

namespace Sys2Proof.Machine

/-! ## What R19 and R20 speak of -/

/-- The part of a channel's record that the law of the service lock reads (R19, R20). -/
structure LockView where
  locked : Bool
  button : Option Pulse
  reset : Option Pulse
  pendingSupply : Bool
  run : Option Run

/-- That part of a record. -/
@[simp] abbrev ChannelState.lockView (x : ChannelState) : LockView :=
  ⟨x.power.locked, x.power.button, x.power.reset, x.power.pendingSupply, x.context.run⟩

/-- That part of every channel. An operation `f` with `(f s).lockView = s.lockView` touches nothing of it. -/
def State.lockView (s : State) (c : Channel) : LockView := (s.chan c).lockView

section Frames

variable (s : State) (c : Channel) (d : DriveNo)

theorem lockView_modChan_update (f : ChannelState → ChannelState) :
    (modChan c f s).lockView = Function.update s.lockView c (f (s.chan c)).lockView := by
  funext c'
  by_cases hc : c' = c
  · subst hc
    rw [Function.update_self, State.lockView, chan_modChan]
  · rw [Function.update_of_ne hc, State.lockView, chan_modChan_ne s c f hc, State.lockView]

@[simp] theorem lockView_modChan (f : ChannelState → ChannelState)
    (h : ∀ x, (f x).lockView = x.lockView) : (modChan c f s).lockView = s.lockView := by
  rw [lockView_modChan_update, h]
  exact Function.update_eq_self c s.lockView

theorem lockView_marker (k : MarkerKind) (a : Nat) : (marker c k a s).lockView = s.lockView :=
  lockView_modChan s c _ fun _ => rfl

theorem lockView_raise (k : ChannelFlag) : (raise c k s).lockView = s.lockView :=
  lockView_modChan s c _ fun _ => rfl

theorem lockView_setWindowEnd (l : Line) (t : Nat) : (modPower c (Power.setWindowEnd l t) s).lockView = s.lockView :=
  lockView_modChan s c _ fun _ => by cases l <;> rfl

@[simp] theorem lockView_modDrive (f : Drive → Drive) : (modDrive d f s).lockView = s.lockView := rfl

@[simp] theorem lockView_advanceTo (t : Nat) : (s.advanceTo t).lockView = s.lockView := rfl

@[simp] theorem lockView_shiftOut (l : List Byte) : (shiftOut l s).lockView = s.lockView := rfl

/-! ### The pool and the cache touch no more of a channel than its port -/

@[simp] theorem lockView_takePage : (takePage s).lockView = s.lockView := by
  unfold takePage evict
  split
  · split <;> rfl
  · rfl

@[simp] theorem lockView_touch (i : Nat) : (touch d i s).lockView = s.lockView := rfl

@[simp] theorem lockView_setWait (w : Option Wait) : (setWait c w s).lockView = s.lockView := by
  simp [setWait, modRequest]

@[simp] theorem lockView_complete (st : Completion) : (complete c st s).lockView = s.lockView := by
  simp [complete]

@[simp] theorem lockView_withdraw : (withdraw c s).lockView = s.lockView := rfl

@[simp] theorem lockView_endRequest (st : Completion) : (endRequest c st s).lockView = s.lockView := by
  simp [endRequest]

@[simp] theorem lockView_joinPageWaiters (i : Nat) (n : Need) :
    (joinPageWaiters c d i n s).lockView = s.lockView := lockView_setWait _ c _

@[simp] theorem lockView_joinEntryWaiters (i : Nat) : (joinEntryWaiters c d i s).lockView = s.lockView :=
  lockView_setWait _ c _

@[simp] theorem lockView_joinDirtyWaiters (i : Nat) : (joinDirtyWaiters c d i s).lockView = s.lockView :=
  lockView_setWait _ c _

@[simp] theorem lockView_joinWant (i : Nat) : (joinWant c d i s).lockView = s.lockView := by
  unfold joinWant
  split
  · rfl
  · exact lockView_setWait _ c _

@[simp] theorem lockView_createWant (i : Nat) (l : List Channel) : (createWant d i l s).lockView = s.lockView :=
  lockView_takePage s

@[simp] theorem lockView_readahead (n i : Nat) : (readahead d n i s).lockView = s.lockView := by
  induction n generalizing i s with
  | zero => rfl
  | succ n ih =>
    unfold readahead
    repeat' split
    all_goals simp [ih]

@[simp] theorem lockView_demandWant (i : Nat) : (demandWant c d i s).lockView = s.lockView := by
  unfold demandWant
  repeat' split
  all_goals simp

@[simp] theorem lockView_servePage (k : Descriptor) (x : Cursor) (p : CachePage) :
    (servePage c k x p s).lockView = s.lockView := by
  simp [servePage]

@[simp] theorem lockView_placed (x : Cursor) : (placed c x s).lockView = s.lockView := by
  simp [placed, modRequest]

@[simp] theorem lockView_writePage (k : Descriptor) (r : Request) (x : Cursor) (p : CachePage) (st : CacheState) :
    (writePage c d k r x p st s).lockView = s.lockView := by
  simp [writePage, putPage]

@[simp] theorem lockView_queueSpill (i : Nat) : (queueSpill d i s).lockView = s.lockView := rfl

@[simp] theorem lockView_unlist (i : Nat) : (unlist d i s).lockView = s.lockView := rfl

@[simp] theorem lockView_putPage (p : CachePage) : (putPage d p s).lockView = s.lockView := rfl

@[simp] theorem lockView_dropPage (i : Nat) : (dropPage d i s).lockView = s.lockView := rfl

@[simp] theorem lockView_removeWant (n : Byte) : (removeWant n s).lockView = s.lockView := rfl

@[simp] theorem lockView_removeSpill (n : Byte) : (removeSpill n s).lockView = s.lockView := rfl

@[simp] theorem lockView_readStep (k : Descriptor) (x : Cursor) : (readStep c d k x s).1.lockView = s.lockView := by
  unfold readStep
  repeat' split
  all_goals simp

@[simp] theorem lockView_writeStep (k : Descriptor) (r : Request) (x : Cursor) :
    (writeStep c d k r x s).1.lockView = s.lockView := by
  unfold writeStep
  repeat' split
  all_goals simp

@[simp] theorem lockView_pageStep (r : Request) : (pageStep c d r s).1.lockView = s.lockView := by
  unfold pageStep
  dsimp only
  split <;> simp

@[simp] theorem lockView_carryOn (n : Nat) : (carryOn c d n s).lockView = s.lockView := by
  induction n generalizing s with
  | zero => rfl
  | succ n ih =>
    unfold carryOn
    dsimp only
    repeat' split
    all_goals simp [ih]

@[simp] theorem lockView_resumeRequest : (resumeRequest c s).lockView = s.lockView := by
  unfold resumeRequest
  split <;> simp

/-- Page waiters, want-entry waiters and dirty waiters are served by requests carried on. -/
@[simp] theorem lockView_servePages : (servePages s).lockView = s.lockView := by
  suffices h : ∀ n s, (servePageWaiters n s).lockView = s.lockView from h _ s
  intro n
  induction n with
  | zero => intro s; rfl
  | succ n ih =>
    intro s
    unfold servePageWaiters
    repeat' split
    · rfl
    · rw [ih, lockView_resumeRequest]; rfl
    · rfl

@[simp] theorem lockView_serveEntries : (serveEntries s).lockView = s.lockView := by
  suffices h : ∀ n s, (serveEntryWaiters n s).lockView = s.lockView from h _ s
  intro n
  induction n with
  | zero => intro s; rfl
  | succ n ih =>
    intro s
    unfold serveEntryWaiters
    repeat' split
    · rfl
    · rw [ih, lockView_resumeRequest]; rfl
    · rfl

@[simp] theorem lockView_serveDirty : (serveDirty d s).lockView = s.lockView := by
  suffices h : ∀ n s, (serveDirtyWaiters d n s).lockView = s.lockView from h _ s
  intro n
  induction n with
  | zero => intro s; rfl
  | succ n ih =>
    intro s
    unfold serveDirtyWaiters
    repeat' split
    · rfl
    · rw [ih, lockView_resumeRequest]; rfl
    · rfl

@[simp] theorem lockView_testDrain : (testDrain d s).lockView = s.lockView := by
  unfold testDrain
  split <;> rfl

@[simp] theorem lockView_testSync : (testSync d s).lockView = s.lockView := by
  unfold testSync
  repeat' split
  all_goals simp

/-- What holds of every turn of a loop over a list holds of the loop. -/
theorem lockView_foldl {α : Type} {f : State → α → State} (h : ∀ s a, (f s a).lockView = s.lockView)
    (l : List α) : (l.foldl f s).lockView = s.lockView := by
  induction l generalizing s with
  | nil => rfl
  | cons a l ih => rw [List.foldl_cons, ih, h]

@[simp] theorem lockView_failWant (w : Want) (st : Completion) : (failWant w st s).lockView = s.lockView := by
  simp [failWant, lockView_foldl]

@[simp] theorem lockView_fillWant (w : Want) (data : List Byte) : (fillWant w data s).lockView = s.lockView := by
  simp [fillWant, lockView_foldl]

@[simp] theorem lockView_afterSpill (stored : Bool) : (afterSpill d stored s).lockView = s.lockView := by
  unfold afterSpill
  cases stored <;> simp

@[simp] theorem lockView_spillToHead (i : Nat) : (spillToHead d i s).lockView = s.lockView := by
  unfold spillToHead
  split <;> rfl

@[simp] theorem lockView_spillStored (i : Nat) : (spillStored d i s).lockView = s.lockView := by
  unfold spillStored
  repeat' split
  all_goals rfl

/-! ### The Capture Store -/

@[simp] theorem lockView_captureByte (b : Byte) : (captureByte c b s).1.lockView = s.lockView := by
  have hneed : (needPage c s).lockView = s.lockView := by
    unfold needPage
    dsimp only
    repeat' split
    all_goals simp
  unfold captureByte
  split <;> simp [hneed]

@[simp] theorem lockView_setLimits (floor ceiling : Nat) : (setLimits c floor ceiling s).lockView = s.lockView := by
  unfold setLimits
  dsimp only
  split <;> simp

/-! ### The drives and the ports -/

@[simp] theorem lockView_setPortState (v : PortState) : (setPortState c v s).lockView = s.lockView := by
  simp [setPortState]

@[simp] theorem lockView_enterConfigured : (enterConfigured c s).lockView = s.lockView := by
  simp [enterConfigured]

@[simp] theorem lockView_leaveBus : (leaveBus c s).lockView = s.lockView := by
  unfold leaveBus reflagEject
  split <;> simp

@[simp] theorem lockView_dropBus (v : PortState) : (dropBus c v s).lockView = s.lockView := by
  unfold dropBus
  split <;> simp

@[simp] theorem lockView_insertDrive : (insertDrive d c s).lockView = s.lockView := by
  unfold insertDrive wakePort
  split <;> simp

@[simp] theorem lockView_dropPosted : (dropPosted d s).lockView = s.lockView := by
  unfold dropPosted
  refine lockView_foldl s ?_ _
  exact fun _ _ => rfl

@[simp] theorem lockView_enterDraining (own : Bool) (why : OutReason) :
    (enterDraining own d why s).lockView = s.lockView := by
  unfold enterDraining
  split
  · rfl
  · cases own <;> simp [unbind]

theorem lockView_ejectDrive {force : Bool} {why : OutReason} {t : State} (h : ejectDrive d force why s = some t) :
    t.lockView = s.lockView := by
  unfold ejectDrive at h
  dsimp only at h
  split at h
  case h_4 => cases h
  all_goals
    cases h
    repeat' split
    all_goals simp

theorem lockView_examine {act : DriveNo → State → State} (h : ∀ d s, (act d s).lockView = s.lockView) :
    (examine c act s).lockView = s.lockView := by
  unfold examine
  repeat' split
  all_goals simp [h]

theorem lockView_serverRequest {act : DriveNo → State → State} (r : Request)
    (h : ∀ d s, (act d s).lockView = s.lockView) : (serverRequest c r act s).lockView = s.lockView := by
  unfold serverRequest
  split
  · simp [lockView_examine, h]
  · rfl

@[simp] theorem lockView_readRequest (lba n : Nat) : (readRequest c lba n d s).lockView = s.lockView := by
  unfold readRequest
  repeat' split
  all_goals simp

@[simp] theorem lockView_writeRequest (lba n : Nat) : (writeRequest c lba n d s).lockView = s.lockView := by
  unfold writeRequest
  repeat' split
  all_goals simp

@[simp] theorem lockView_lockRequest (on : Bool) : (lockRequest c on d s).lockView = s.lockView := by
  unfold lockRequest
  dsimp only
  split <;> simp

@[simp] theorem lockView_ejectRequest : (ejectRequest c d s).lockView = s.lockView := by
  unfold ejectRequest
  split <;> simp

@[simp] theorem lockView_syncRequest : (syncRequest c d s).lockView = s.lockView := by
  unfold syncRequest
  split <;> simp

@[simp] theorem lockView_capacityRequest : (capacityRequest c d s).lockView = s.lockView := by
  simp [capacityRequest]

/-! ### The match units and the monitors -/

@[simp] theorem lockView_consumeHit (u : UnitNo) : (consumeHit c u s).lockView = s.lockView := by
  simp [consumeHit]

@[simp] theorem lockView_loseLock : (loseLock c s).lockView = s.lockView := by
  simp [loseLock, resetProgress]

@[simp] theorem lockView_baudWindow : (baudWindow c s).lockView = s.lockView := by
  have hunting (v : Verdict) : (huntingEnd c v s).lockView = s.lockView := by
    unfold huntingEnd lockAt resetProgress
    dsimp only
    repeat' split
    all_goals simp
  have locked (v : Verdict) : (lockedEnd c v s).lockView = s.lockView := by
    unfold lockedEnd
    dsimp only
    split <;> simp
  cases hf : (s.chan c).finder.state <;> simp [baudWindow, hf, hunting, locked]

@[simp] theorem lockView_relearn : (relearn c s).lockView = s.lockView := by
  unfold relearn
  split <;> simp

@[simp] theorem lockView_surviveEdge (t : Nat) : (surviveEdge c t s).lockView = s.lockView := by
  simp [surviveEdge]

@[simp] theorem lockView_openWatchGate : (openWatchGate c s).lockView = s.lockView := by
  unfold openWatchGate
  split <;> simp

@[simp] theorem lockView_closeWatchGate : (closeWatchGate c s).lockView = s.lockView := by
  simp [closeWatchGate]

/-! ### The transmitter -/

@[simp] theorem lockView_arbitrate : (arbitrate c s).lockView = s.lockView := by
  unfold arbitrate
  split <;> simp

@[simp] theorem lockView_installKeys (k : KeyNo) (n : Nat) (l : List Byte) :
    (installKeys c k n l s).lockView = s.lockView := by
  simp [installKeys]

@[simp] theorem lockView_emptySlot : (emptySlot c s).lockView = s.lockView := by
  simp [emptySlot]

@[simp] theorem lockView_requestBreak (o : Origin) (n : Nat) : (requestBreak c o n s).lockView = s.lockView := by
  simp [requestBreak]

@[simp] theorem lockView_endBreak (n : Nat) : (endBreak c n s).lockView = s.lockView := by
  simp [endBreak]

@[simp] theorem lockView_flushQueue : (flushQueue c s).lockView = s.lockView := by
  unfold flushQueue
  dsimp only
  split <;> simp

@[simp] theorem lockView_stall : (stall c s).lockView = s.lockView := by
  simp [stall]

@[simp] theorem lockView_openTxGate : (openTxGate c s).lockView = s.lockView := by
  simp [openTxGate]

/-! ### The power state -/

@[simp] theorem lockView_enterOn : (enterOn c s).lockView = s.lockView := by
  unfold enterOn powerUpSignal
  split <;> simp

@[simp] theorem lockView_releasePen : (releasePen c s).lockView = s.lockView := by
  simp [releasePen]

end Frames

end Sys2Proof.Machine

/-! # The law of the service lock: what carries it over, up to the runs and the triggers -/

namespace Sys2Proof.Machine

section Keeping

/-! ## The law carried from one state to the next -/

/-- R19 and R20 for the part of a channel that they read. -/
def LockView.Law (v : LockView) : Prop :=
  v.locked = true → v.button = none ∧ v.reset = none ∧ v.pendingSupply = false ∧ v.run = none

theorem lockLaw_iff {s : State} : s.LockLaw ↔ ∀ c, (s.lockView c).Law := Iff.rfl

/-- From `s`, obeying the law, to `t` the law carries over and no channel's lock changes: what every operation
does but the lock's own two qualifications and a power-on reset. -/
def KeepsLock (s t : State) : Prop := s.LockLaw → t.LockLaw ∧ ∀ c, t.isLocked c = s.isLocked c

namespace KeepsLock

variable {s t u : State} {c : Channel}

theorem refl (s : State) : KeepsLock s s := fun hs => ⟨hs, fun _ => rfl⟩

theorem trans (h : KeepsLock s t) (h' : KeepsLock t u) : KeepsLock s u := fun hs => by
  obtain ⟨ht, hst⟩ := h hs
  obtain ⟨hu, htu⟩ := h' ht
  exact ⟨hu, fun c => (htu c).trans (hst c)⟩

/-- A channel that is not locked is still not locked for what follows. -/
theorem thenUnlocked (h : KeepsLock s t) (hc : s.isLocked c = false)
    (h' : t.isLocked c = false → KeepsLock t u) : KeepsLock s u := fun hs => by
  obtain ⟨-, hst⟩ := h hs
  exact h.trans (h' ((hst c).trans hc)) hs

/-- What leaves alone all that the law reads keeps the law. -/
theorem of_lockView (h : t.lockView = s.lockView) : KeepsLock s t := fun hs =>
  ⟨lockLaw_iff.2 fun c => h ▸ lockLaw_iff.1 hs c, fun c => congrArg (fun v => (v c).locked) h⟩

/-- One channel's record changed, its lock not and its law kept. -/
theorem modChan {f : ChannelState → ChannelState} (hl : (f (s.chan c)).power.locked = (s.chan c).power.locked)
    (hf : (s.chan c).LockLaw → (f (s.chan c)).LockLaw) : KeepsLock s (modChan c f s) := fun hs => by
  refine ⟨fun c' => ?_, fun c' => ?_⟩ <;> by_cases hc : c' = c
  · subst hc
    rw [chan_modChan]
    exact hf (hs c')
  · rw [chan_modChan_ne s c f hc]
    exact hs c'
  · subst hc
    simpa only [State.isLocked, chan_modChan] using hl
  · simp only [State.isLocked, chan_modChan_ne s c f hc]

/-- A channel that is not locked may change anything but its lock. -/
theorem modChan_unlocked {f : ChannelState → ChannelState} (hc : s.isLocked c = false)
    (hl : (f (s.chan c)).power.locked = (s.chan c).power.locked) : KeepsLock s (Machine.modChan c f s) :=
  modChan hl fun _ hlocked => absurd (hl.symm.trans hlocked) (by simp [show (s.chan c).power.locked = false from hc])

/-- One channel's record then changed in nothing that the law reads. -/
theorem thenFrame {f : ChannelState → ChannelState} (h : KeepsLock s t)
    (hf : ∀ x, (f x).lockView = x.lockView := by intro x; rfl) : KeepsLock s (Machine.modChan c f t) :=
  h.trans (of_lockView (lockView_modChan t c f hf))

end KeepsLock

variable {s : State} {c : Channel}

/-- Under the law a channel with a run is not locked. -/
theorem isLocked_of_run {r : Run} (hs : s.LockLaw) (hr : s.run c = some r) : s.isLocked c = false := by
  cases hl : s.isLocked c with
  | false => rfl
  | true =>
    obtain ⟨-, -, -, hrun⟩ := hs c hl
    exact absurd (hrun.symm.trans hr) (by simp)

/-! ### The Power Controller -/

theorem keepsLock_releaseLine (l : Line) : KeepsLock s (modPower c (Power.setPulse l none) s) := by
  cases l
  · exact .modChan rfl fun h hl => ⟨rfl, (h hl).2⟩
  · refine .modChan rfl fun h hl => ?_
    obtain ⟨hbutton, -, hrest⟩ := h hl
    exact ⟨hbutton, rfl, hrest⟩

theorem keepsLock_endPulse (l : Line) (held : Nat) : KeepsLock s (endPulse c l held s) := by
  unfold endPulse
  exact .thenFrame (.thenFrame (keepsLock_releaseLine l)) (by intro x; cases l <;> rfl)

theorem keepsLock_cutShort (l : Line) (which : Origin → Bool) : KeepsLock s (cutShort c l which s) := by
  unfold cutShort
  split
  · exact .refl s
  · split
    · exact keepsLock_endPulse l _
    · exact .refl s

theorem keepsLock_startPulse (hc : s.isLocked c = false) (l : Line) (o : Origin) (n : Nat) :
    KeepsLock s (startPulse c l o n s) :=
  .modChan_unlocked hc (by cases l <;> rfl)

theorem keepsLock_clearPending : KeepsLock s (modPower c (fun p => { p with pendingSupply := false }) s) := by
  refine .modChan rfl fun h hl => ?_
  obtain ⟨hbutton, hreset, -, hrun⟩ := h hl
  exact ⟨hbutton, hreset, rfl, hrun⟩

theorem keepsLock_closeTxGate {tell : State → State} (h : ∀ s, KeepsLock s (tell s)) :
    KeepsLock s (closeTxGate tell c s) := by
  have hbreak (s : State) : KeepsLock s (gateBreak tell c s) := by
    unfold gateBreak
    dsimp only
    repeat' split
    · exact .refl s
    · exact (KeepsLock.of_lockView (lockView_endBreak s c _)).trans (h _)
    · exact .of_lockView (lockView_endBreak s c _)
  unfold closeTxGate
  exact .thenFrame (((KeepsLock.thenFrame (.refl s)).trans (.of_lockView (lockView_flushQueue _ c))).trans (hbreak _))

theorem keepsLock_leaveOn {tell : State → State} (h : ∀ s, KeepsLock s (tell s)) (cause : OffCause) :
    KeepsLock s (leaveOn tell c cause s) :=
  (KeepsLock.of_lockView (by simp)).trans (keepsLock_closeTxGate h)

theorem keepsLock_cutPower : KeepsLock s (cutPower c s) := by
  unfold cutPower
  split
  · exact .of_lockView (by simp)
  · exact (KeepsLock.of_lockView (lockView_releasePen s c)).trans (keepsLock_leaveOn .refl _)
  · exact keepsLock_clearPending
  · exact .refl s

theorem keepsLock_assertPen : KeepsLock s (assertPen c s) := by
  unfold assertPen
  refine .thenFrame (.thenFrame (.modChan (by rfl) fun h hl => ?_))
  obtain ⟨hbutton, hreset, -, hrun⟩ := h hl
  exact ⟨hbutton, hreset, rfl, hrun⟩

theorem keepsLock_supplyPower (hc : s.isLocked c = false) : KeepsLock s (supplyPower c s) := by
  unfold supplyPower
  split
  · exact keepsLock_assertPen
  · exact .modChan_unlocked hc rfl
  · exact .refl s

/-! ### The Recipe Engine -/

theorem keepsLock_clearRun : KeepsLock s (modContext c (fun k => { k with run := none }) s) := by
  refine .modChan rfl fun h hl => ?_
  obtain ⟨hbutton, hreset, hpending, -⟩ := h hl
  exact ⟨hbutton, hreset, hpending, rfl⟩

/-- What a run's end does once the context is IDLE (R162). -/
theorem keepsLock_endRun_of_cleared (x : RunResult) :
    KeepsLock (modContext c (fun k => { k with run := none }) s) (endRun c x s) := by
  unfold endRun
  refine .thenFrame (.thenFrame (.thenFrame (.trans ?_ (.of_lockView (lockView_emptySlot _ c)))))
  exact (keepsLock_cutShort .button _).trans (keepsLock_cutShort .reset _)

theorem keepsLock_endRun (x : RunResult) : KeepsLock s (endRun c x s) :=
  keepsLock_clearRun.trans (keepsLock_endRun_of_cleared x)

theorem keepsLock_setRun (hc : s.isLocked c = false) (r : Run) : KeepsLock s (setRun c r s) :=
  .modChan_unlocked hc rfl

/-- A step of a channel that is not locked, whatever its kind. -/
theorem keepsLock_act (hc : s.isLocked c = false) (r : Run) (x : RecipeStep) : KeepsLock s (act c r s x).1 := by
  have pulse (l : Line) (n : Nat) : KeepsLock s (pulseStep c l n s).1 := by
    unfold pulseStep
    split
    · exact .refl s
    · exact keepsLock_startPulse hc l .run n
  cases x with
  | pressButton n => exact pulse .button n
  | pulseReset n => exact pulse .reset n
  | cutPower => exact keepsLock_cutPower
  | supplyPower => exact keepsLock_supplyPower hc
  | waitPower on t =>
    refine .of_lockView ?_
    simp only [act, waitPowerStep]
    split <;> rfl
  | waitMatch u t =>
    refine .of_lockView ?_
    simp only [act, waitMatchStep]
    repeat' split
    all_goals simp
  | armMatch u =>
    refine .of_lockView ?_
    simp only [act, armStep]
    split <;> simp
  | sendKeys k i =>
    refine .of_lockView ?_
    simp only [act, sendKeysStep]
    split <;> simp
  | stopKeys => exact .of_lockView (lockView_emptySlot s c)
  | relearnBaud => exact .of_lockView (lockView_relearn s c)
  | sendBreak n =>
    refine .of_lockView ?_
    simp only [act, sendBreakStep]
    split <;> simp
  | insertMedia d =>
    refine .of_lockView ?_
    simp only [act, insertStep]
    repeat' split
    all_goals simp
  | ejectMedia d force =>
    refine .of_lockView ?_
    simp only [act, ejectStep]
    repeat' split
    next h => exact lockView_ejectDrive s d h
    all_goals rfl
  | waitActivity n t => exact .refl s
  | waitQuiet q t => exact .refl s
  | waitHeartbeat t => exact .refl s
  | delay n => exact .refl s
  | branch o t => exact .refl s
  | call k => exact .refl s
  | ret pass => exact .refl s
  | finish code => exact .refl s

theorem keepsLock_takeStep (hc : s.isLocked c = false) (r : Run) : KeepsLock s (takeStep c r s).1 := by
  unfold takeStep
  split
  · exact .refl s
  · exact keepsLock_act hc r _

theorem keepsLock_settle {r : Run} {next : Run → State → State} {x : State × Taken} (hc : s.isLocked c = false)
    (hx : KeepsLock s x.1) (hnext : ∀ r t, t.isLocked c = false → KeepsLock t (next r t)) :
    KeepsLock s (settle c r next x) := by
  unfold settle
  refine hx.thenUnlocked hc fun hc' => ?_
  split
  · exact keepsLock_setRun hc' _
  · exact keepsLock_endRun _
  · exact hnext _ _ hc'
  · exact hnext _ _ hc'

theorem keepsLock_runSteps (n : Nat) (r : Run) (hc : s.isLocked c = false) : KeepsLock s (runSteps c n r s) := by
  induction n generalizing s r with
  | zero => exact keepsLock_settle hc (keepsLock_takeStep hc r) fun _ _ _ => keepsLock_endRun .loop
  | succ n ih => exact keepsLock_settle hc (keepsLock_takeStep hc r) fun _ _ hc' => ih _ hc'

theorem keepsLock_goOn (hc : s.isLocked c = false) (r : Run) : KeepsLock s (goOn c r s) :=
  (keepsLock_setRun hc r).thenUnlocked hc fun hc' => keepsLock_runSteps _ r hc'

theorem keepsLock_startRun (hc : s.isLocked c = false) (k : RecipeNo) (source : RunSource) :
    KeepsLock s (startRun c k source s) := by
  unfold startRun
  refine KeepsLock.thenUnlocked ?_ hc fun hc' => keepsLock_goOn hc' _
  exact .thenFrame (.modChan_unlocked hc (by rfl))

/-- A wait that ends goes on with a run, and a channel with a run is not locked. -/
theorem keepsLock_finishWait (o : StepOutcome) : KeepsLock s (finishWait c o s) := by
  unfold finishWait
  split
  · exact .refl s
  next r hr => exact fun hs => keepsLock_goOn (isLocked_of_run hs hr) _ hs

theorem keepsLock_tellRun (e : RunEvent) : KeepsLock s (tellRun c e s) := by
  unfold tellRun
  split
  · exact .refl s
  next r hr =>
    have setRun (r' : Run) : KeepsLock s (setRun c r' s) := fun hs =>
      keepsLock_setRun (isLocked_of_run hs hr) r' hs
    have count (n k : Nat) : KeepsLock s (countByte c r n k s) := by
      unfold countByte
      split
      · exact keepsLock_finishWait _
      · exact setRun _
    have finishIf {p : Prop} [Decidable p] (o : StepOutcome) : KeepsLock s (if p then finishWait c o s else s) := by
      split
      · exact keepsLock_finishWait o
      · exact .refl s
    split
    · exact finishIf .met
    · exact finishIf .met
    · exact keepsLock_finishWait .met
    · exact keepsLock_finishWait .met
    · split
      · exact (KeepsLock.of_lockView (lockView_consumeHit s c _)).trans (keepsLock_finishWait .met)
      · exact .refl s
    · exact finishIf .failed
    · exact count _ _
    · exact setRun _
    · exact finishIf .met
    · exact .refl s

/-! ### Triggers and characters -/

/-- A slot fires on a channel that is not locked only (R166). -/
theorem isLocked_of_slotFires {e : TriggerEvent} {i : SlotNo} {r : RecipeNo} (h : slotFires c e i s = some r) :
    s.isLocked c = false := by
  unfold slotFires at h
  dsimp only at h
  split at h
  · cases h
  · split at h
    next hfire =>
      obtain ⟨-, -, -, hlock, -⟩ := hfire
      simpa using hlock
    · cases h

theorem keepsLock_deliver (e : TriggerEvent) : KeepsLock s (deliver c e s) := by
  suffices h : ∀ l, KeepsLock s (examineSlots c e l s) from h _
  intro l
  induction l with
  | nil => exact .refl s
  | cons i l ih =>
    unfold examineSlots
    split
    next r hr =>
      have hc := isLocked_of_slotFires hr
      unfold fire
      dsimp only
      refine KeepsLock.thenUnlocked (.of_lockView ?_) hc fun hc' => keepsLock_startRun hc' _ _
      split <;> simp
    · exact ih

theorem keepsLock_afterHit (u : UnitNo) : KeepsLock s (afterHit c u s) :=
  ((KeepsLock.of_lockView (by simp)).trans (keepsLock_tellRun _)).trans (keepsLock_deliver _)

theorem keepsLock_unitSees (b : Byte) (u : UnitNo) : KeepsLock s (unitSees c b s u) := by
  have hsee : KeepsLock s (modUnit c u (MatchUnit.see b) s) := .of_lockView (by simp)
  unfold unitSees
  dsimp only
  split
  · exact hsee.trans (keepsLock_afterHit u)
  · exact hsee

theorem keepsLock_watchByte (b : Byte) : KeepsLock s (watchByte c b s) := by
  unfold watchByte
  generalize List.finRange 4 = l
  induction l generalizing s with
  | nil => exact .refl s
  | cons u l ih => exact (keepsLock_unitSees b u).trans ih

theorem keepsLock_acceptByte (b : Byte) : KeepsLock s (acceptByte c b s) := by
  have hwatch := (KeepsLock.of_lockView (lockView_captureByte s c b)).trans (keepsLock_watchByte (c := c) b)
  unfold acceptByte
  dsimp only
  split
  · exact hwatch.trans (keepsLock_tellRun _)
  · exact hwatch

end Keeping

end Sys2Proof.Machine

/-! # The law of the service lock: the lock itself, the resets and the host's requests -/

namespace Sys2Proof.Machine

section Commands

variable {s : State} {c : Channel}

/-! ## The lock's own qualifications (R11, R12, R14) -/

/-- The law after one channel's part of it was replaced by one that obeys it. -/
theorem lockLaw_of_update {t : State} {v : LockView} (hs : s.LockLaw) (ht : t.lockView = Function.update s.lockView c v)
    (hv : v.Law) : t.LockLaw := by
  refine lockLaw_iff.2 fun c' => ?_
  rw [ht]
  by_cases hc : c' = c
  · subst hc
    rwa [Function.update_self]
  · rw [Function.update_of_ne hc]
    exact lockLaw_iff.1 hs c'

/-- A line released. -/
def LockView.release (v : LockView) : Line → LockView
  | .button => { v with button := none }
  | .reset => { v with reset := none }

/-- A pulse of any origin cut short leaves its line released, and so does one that was not active. -/
theorem lockView_cutShort_all (s : State) (c : Channel) (l : Line) :
    (cutShort c l (fun _ => true) s).lockView = Function.update s.lockView c ((s.lockView c).release l) := by
  have hrelease : (modPower c (Power.setPulse l none) s).lockView =
      Function.update s.lockView c ((s.lockView c).release l) := by
    rw [modPower_eq, lockView_modChan_update]
    cases l <;> rfl
  unfold cutShort
  split
  next hnone =>
    have hidle : (s.lockView c).release l = s.lockView c := by
      cases l <;> simp_all [LockView.release, State.lockView, Power.pulse]
    rw [hidle, Function.update_eq_self]
  next p hsome =>
    rw [if_pos rfl, endPulse, lockView_setWindowEnd, lockView_marker, hrelease]

/-- Steps 1 to 5 of R12: what LOCKED does before a run is looked for. -/
def lockLines (c : Channel) (s : State) : State :=
  s |> modPower c (fun p => { p with locked := true, lockSince := none })
    |> cutShort c .button (fun _ => true)
    |> cutShort c .reset (fun _ => true)
    |> modPower c (fun p => { p with pendingSupply := false })
    |> marker c .lockOn 0
    |> raise c .lock

theorem lockOn_eq : lockOn c s =
    if (lockLines c s).running c then endRun c .locked (lockLines c s) else lockLines c s := rfl

theorem lockView_lockLines : (lockLines c s).lockView =
    Function.update s.lockView c ⟨true, none, none, false, s.run c⟩ := by
  have hpending (t : State) : (modPower c (fun p => { p with pendingSupply := false }) t).lockView =
      Function.update t.lockView c { t.lockView c with pendingSupply := false } := lockView_modChan_update t c _
  have hlocked : (modPower c (fun p => { p with locked := true, lockSince := none }) s).lockView =
      Function.update s.lockView c { s.lockView c with locked := true } := lockView_modChan_update s c _
  rw [lockLines, lockView_raise, lockView_marker, hpending, lockView_cutShort_all, lockView_cutShort_all, hlocked]
  simp only [Function.update_idem, Function.update_self, LockView.release]
  rfl

theorem lockView_clearRun (t : State) : (modContext c (fun k => { k with run := none }) t).lockView =
    Function.update t.lockView c { t.lockView c with run := none } := lockView_modChan_update t c _

/-- LOCKED qualified: both lines released, no supply pending, and a run ended (R12). -/
theorem lockOn_lockLaw (hs : s.LockLaw) : (lockOn c s).LockLaw := by
  rw [lockOn_eq]
  split
  · have hclear : (modContext c (fun k => { k with run := none }) (lockLines c s)).lockView =
        Function.update s.lockView c ⟨true, none, none, false, none⟩ := by
      rw [lockView_clearRun, lockView_lockLines, Function.update_self, Function.update_idem]
    exact (keepsLock_endRun_of_cleared .locked (lockLaw_of_update hs hclear fun _ => ⟨rfl, rfl, rfl, rfl⟩)).1
  next hidle =>
    have hrun : (lockLines c s).run c = s.run c := by
      change ((lockLines c s).lockView c).run = s.run c
      rw [lockView_lockLines, Function.update_self]
    rw [State.running, hrun, Option.not_isSome_iff_eq_none] at hidle
    exact lockLaw_of_update hs lockView_lockLines fun _ => ⟨rfl, rfl, rfl, hidle⟩

/-- FREE qualified: the law asks nothing of a channel that is not locked (R14). -/
theorem lockFree_lockLaw (hs : s.LockLaw) :
    (s |> modPower c (fun p => { p with locked := false, lockSince := none }) |> marker c .lockOff 0).LockLaw :=
  lockLaw_of_update hs ((lockView_marker _ c _ _).trans (lockView_modChan_update s c _)) nofun

/-! ## Resets (R17, R18, R164) -/

theorem powerOn_lockLaw (now : Nat) (pins : Table 8 Pins) : (State.powerOn now pins).LockLaw := by
  intro c
  rw [State.chan, State.powerOn, Table.get_map]
  exact fun _ => ⟨rfl, rfl, rfl, rfl⟩

theorem keepsLock_partReset : KeepsLock s (partReset s) := by
  have hchan (c : Channel) : (partReset s).chan c = (s.chan c).partReset s.now := Table.get_map _ _ _
  refine fun hs => ⟨fun c => ?_, fun c => ?_⟩
  · rw [hchan]
    intro hl
    obtain ⟨-, -, hpending, -⟩ := hs c hl
    exact ⟨rfl, rfl, hpending, rfl⟩
  · rw [State.isLocked, hchan]
    rfl

theorem keepsLock_channelReset : KeepsLock s (channelReset c s) := by
  refine KeepsLock.trans (.modChan rfl fun h hl => ?_) (.of_lockView (lockView_servePages _))
  obtain ⟨-, -, hpending, hrun⟩ := h hl
  refine ⟨rfl, rfl, hpending, ?_⟩
  simp [ChannelState.channelReset, RunContext.channelReset, hrun]

/-! ## Power-good (R2, R3, R15) -/

theorem keepsLock_qualifyPg : KeepsLock s (qualifyPg c s) := by
  have hpg (level : Bool) : KeepsLock s (modPower c (fun p => { p with pgQualified := level, pgSince := none }) s) :=
    .thenFrame (.refl s)
  have htrigger (p : Prop) [Decidable p] (t : State) :
      KeepsLock t ((if p then deliver c .spontaneousOff else id) t) := by
    split
    · exact keepsLock_deliver _
    · exact .refl t
  unfold qualifyPg
  dsimp only
  split
  · exact ((hpg _).trans (.of_lockView (lockView_enterOn _ c))).trans (keepsLock_tellRun _)
  · refine .trans (.trans ?_ (htrigger _ _)) (keepsLock_tellRun _)
    exact .trans (.thenFrame (hpg _)) (keepsLock_leaveOn (fun _ => keepsLock_tellRun _) _)
  · exact hpg _

theorem keepsLock_qualifyIfDue : KeepsLock s (qualifyIfDue c s) := by
  unfold qualifyIfDue
  split
  · exact .refl s
  · split
    · exact keepsLock_qualifyPg
    · exact .refl s

/-! ## The owning rules of the host's requests -/

section Handlers

variable {b : Byte}

theorem keepsLock_onChannel {h : Channel → Handler} (hh : ∀ c s, KeepsLock s (h c s).1) :
    KeepsLock s (onChannel b h s).1 := by
  unfold onChannel
  split
  · exact .refl s
  · exact hh _ s

theorem keepsLock_onDrive {h : DriveNo → Handler} (hh : ∀ d s, KeepsLock s (h d s).1) :
    KeepsLock s (onDrive b h s).1 := by
  unfold onDrive
  split
  · exact .refl s
  · exact hh _ s

theorem keepsLock_onFlag {h : Bool → Handler} (hh : ∀ v s, KeepsLock s (h v s).1) :
    KeepsLock s (onFlag b h s).1 := by
  unfold onFlag
  split
  · exact .refl s
  · exact hh _ s

theorem keepsLock_onEight {h : Fin 8 → Handler} (hh : ∀ k s, KeepsLock s (h k s).1) :
    KeepsLock s (onEight b h s).1 := by
  unfold onEight
  split
  · exact .refl s
  · exact hh _ s

theorem keepsLock_onUnit {ch : Byte} {h : Channel → UnitNo → Handler} (hh : ∀ c u s, KeepsLock s (h c u s).1) :
    KeepsLock s (onUnit ch b h s).1 :=
  keepsLock_onChannel fun c s => by
    split
    · exact .refl s
    · exact hh c _ s

theorem keepsLock_onSlot {ch : Byte} {h : Channel → SlotNo → Handler} (hh : ∀ c i s, KeepsLock s (h c i s).1) :
    KeepsLock s (onSlot ch b h s).1 :=
  keepsLock_onChannel fun c s => by
    split
    · exact .refl s
    · exact hh c _ s

/-- A power request acts on a channel that is not locked only (R13). -/
theorem keepsLock_powerGuard {h : Handler} (hh : s.isLocked c = false → KeepsLock s (h s).1) :
    KeepsLock s (powerGuard c h s).1 := by
  unfold powerGuard
  split
  · exact .refl s
  · split
    · exact .refl s
    next hl _ => exact hh (Bool.not_eq_true _ ▸ hl)

theorem keepsLock_hostPulse {l : Line} {lo hi : Nat} {n : Half} : KeepsLock s (hostPulse l lo hi b n s).1 :=
  keepsLock_onChannel fun c s => keepsLock_powerGuard fun hc => by
    split
    · exact .refl s
    · exact keepsLock_startPulse hc l .host _

theorem keepsLock_hostSupply : KeepsLock s (hostSupply b s).1 :=
  keepsLock_onChannel fun c s => keepsLock_powerGuard fun hc => by
    split <;> exact keepsLock_supplyPower hc

theorem keepsLock_hostSetPowerSettings {q m : Byte} : KeepsLock s (hostSetPowerSettings b q m s).1 :=
  keepsLock_onChannel fun c s => (KeepsLock.thenFrame (.refl s)).trans (keepsLock_qualifyIfDue (c := c))

/-! ### Rules that touch nothing the law reads -/

theorem keepsLock_hostSetBaudMode {mode : Byte} {rate : Quad} : KeepsLock s (hostSetBaudMode b mode rate s).1 :=
  keepsLock_onChannel fun c s => .of_lockView <| by
    have hmode (v : FinderState) (r q : Nat) : (setMode c v r q s).lockView = s.lockView := by
      simp [setMode, resetProgress]
    unfold hostAuto hostFixed
    dsimp only [done]
    split
    · split
      · exact hmode _ _ _
      · rfl
    · split
      · exact hmode _ _ _
      · rfl

theorem keepsLock_hostSetHeartbeatSettings {on streak : Byte} {window sp1 sp2 : Half} :
    KeepsLock s (hostSetHeartbeatSettings b on window sp1 sp2 streak s).1 :=
  keepsLock_onChannel fun c _ => keepsLock_onFlag fun v s => .of_lockView <| by
    dsimp only [done]
    unfold setWatch
    dsimp only
    repeat' split
    all_goals simp

theorem keepsLock_hostSetCaptureLimits {floor ceiling : Byte} :
    KeepsLock s (hostSetCaptureLimits b floor ceiling s).1 :=
  keepsLock_onChannel fun c s => .of_lockView <| by
    dsimp only
    split
    · exact (lockView_servePages _).trans (lockView_setLimits s c _ _)
    · rfl

theorem keepsLock_hostSendConsole {l : List Byte} : KeepsLock s (hostSendConsole b l s).1 :=
  keepsLock_onChannel fun c s => .of_lockView <| by
    split
    · rfl
    · simp [done]

theorem keepsLock_hostSendBreak {n : Half} : KeepsLock s (hostSendBreak b n s).1 :=
  keepsLock_onChannel fun c s => .of_lockView <| by
    repeat' split
    · rfl
    · rfl
    · exact lockView_requestBreak s c _ _

theorem lockView_endHold : (endHold c s).lockView = s.lockView := by
  unfold endHold
  split <;> simp

theorem keepsLock_hostSetTransmitSettings {flow limit : Byte} :
    KeepsLock s (hostSetTransmitSettings b flow limit s).1 :=
  keepsLock_onChannel fun c _ => keepsLock_onFlag fun on s => .of_lockView <| by
    have hstall (t : State) : (stallIfDue c t).lockView = t.lockView := by
      unfold stallIfDue
      dsimp only
      repeat' split
      all_goals simp
    dsimp only [done]
    split
    · rw [hstall]
      simp
    · rw [lockView_endHold]
      simp

theorem keepsLock_hostArmMatch {u : Byte} : KeepsLock s (hostArmMatch b u s).1 :=
  keepsLock_onUnit fun c u s => .of_lockView <| by split <;> simp [answers, done]

theorem keepsLock_hostDisarmMatch {u : Byte} : KeepsLock s (hostDisarmMatch b u s).1 :=
  keepsLock_onUnit fun c u s => .of_lockView <| by split <;> simp [answers, done]

theorem keepsLock_hostLoadDrive {r : DescriptorRecord} : KeepsLock s (hostLoadDrive b r s).1 :=
  keepsLock_onDrive fun d _ => keepsLock_onFlag fun on s => .of_lockView <| by
    dsimp only
    repeat' split
    all_goals rfl

theorem keepsLock_hostUnloadDrive : KeepsLock s (hostUnloadDrive b s).1 :=
  keepsLock_onDrive fun d s => .of_lockView <| by split <;> rfl

theorem keepsLock_hostInsert {ch : Byte} : KeepsLock s (hostInsert b ch s).1 :=
  keepsLock_onDrive fun d _ => keepsLock_onChannel fun c s => .of_lockView <| by
    split
    · rfl
    · exact lockView_insertDrive s c d

theorem keepsLock_hostEject {force : Byte} : KeepsLock s (hostEject b force s).1 :=
  keepsLock_onDrive fun d _ => keepsLock_onFlag fun v s => .of_lockView <| by
    split
    · rfl
    next t ht => exact lockView_ejectDrive s d ht

theorem keepsLock_hostSetPortPresence {presence : Byte} : KeepsLock s (hostSetPortPresence b presence s).1 :=
  keepsLock_onChannel fun c _ => keepsLock_onFlag fun on s => .of_lockView <| by
    dsimp only [done]
    unfold setPresence
    dsimp only
    repeat' split
    all_goals simp

theorem keepsLock_hostFill {want : Byte} {page : Quad} {data : List Byte} :
    KeepsLock s (hostFill want b page data s).1 :=
  keepsLock_onDrive fun d s => .of_lockView <| by
    repeat' split
    · rfl
    · rfl
    · exact lockView_fillWant s _ _

theorem keepsLock_hostFillFailed {want reason : Byte} {page : Quad} :
    KeepsLock s (hostFillFailed want b page reason s).1 :=
  keepsLock_onDrive fun d _ => keepsLock_onFlag fun r s => .of_lockView <| by
    split
    · rfl
    · exact lockView_failWant s _ _

theorem keepsLock_hostTakeSpill : KeepsLock s (hostTakeSpill s).1 := .of_lockView <| by
  unfold hostTakeSpill
  repeat' split
  all_goals rfl

theorem keepsLock_hostSpillDone {spill outcome : Byte} {page : Quad} :
    KeepsLock s (hostSpillDone spill b page outcome s).1 :=
  keepsLock_onDrive fun d _ => keepsLock_onFlag fun retry s => .of_lockView <| by
    split
    · rfl
    next x _ =>
      refine (lockView_afterSpill _ d _).trans ?_
      unfold moveSpilled
      split
      · exact lockView_spillToHead _ d _
      · exact lockView_spillStored _ d _

theorem keepsLock_hostWriteRecipe {l : List StepRecord} : KeepsLock s (hostWriteRecipe b l s).1 :=
  keepsLock_onEight fun k s => .of_lockView <| by
    repeat' split
    all_goals rfl

theorem keepsLock_hostSetTrigger {slot event unit given recipe limit : Byte} {holdoff : Half} :
    KeepsLock s (hostSetTrigger b slot event unit given recipe holdoff limit s).1 :=
  keepsLock_onSlot fun c i s => .of_lockView <| by split <;> simp [answers, done]

theorem keepsLock_hostRearmTrigger {slot : Byte} : KeepsLock s (hostRearmTrigger b slot s).1 :=
  keepsLock_onSlot fun c i s => .of_lockView <| by split <;> simp [answers, done]

theorem keepsLock_hostSetNoticeMask {fields : Table 29 Byte} : KeepsLock s (hostSetNoticeMask fields s).1 :=
  .of_lockView <| by
    unfold hostSetNoticeMask
    split <;> rfl

/-- Read Changes clears flags and nothing else of a channel (R173). -/
theorem keepsLock_hostReadChanges : KeepsLock s (hostReadChanges s).1 := .of_lockView <| by
  funext c
  have hchan : (clearFlags s).chan c = { s.chan c with flags := noFlags } := Table.get_map _ _ _
  change ((clearFlags s).chan c).lockView = (s.chan c).lockView
  rw [hchan]

/-! ### Rules of the Recipe Engine and of Pattern Watch -/

theorem keepsLock_hostSetPattern {unit fold mode : Byte} {pattern : List Byte} :
    KeepsLock s (hostSetPattern b unit fold mode pattern s).1 :=
  keepsLock_onUnit fun c u _ => keepsLock_onFlag fun on _ => keepsLock_onFlag fun counting s => by
    dsimp only [done]
    split
    · exact .trans (.thenFrame (.refl s)) (keepsLock_tellRun _)
    · exact .thenFrame (.refl s)

/-- A recipe runs on a channel that is not locked only (R148). -/
theorem keepsLock_hostRunRecipe {recipe : Byte} : KeepsLock s (hostRunRecipe b recipe s).1 :=
  keepsLock_onChannel fun c _ => keepsLock_onEight fun k s => by
    repeat' split
    · exact .refl s
    · exact .refl s
    · exact .refl s
    next _ hl _ => exact keepsLock_startRun (Bool.not_eq_true _ ▸ hl) k .host

theorem keepsLock_hostStopRecipe : KeepsLock s (hostStopRecipe b s).1 :=
  keepsLock_onChannel fun c s => by
    split
    · exact keepsLock_endRun .stopped
    · exact .refl s

end Handlers

/-- The owning rule of every host request keeps the law. -/
theorem keepsLock_handlerOf (i : Instr) (s : State) : KeepsLock s (handlerOf i s).1 := by
  cases i with
  | partReset => exact keepsLock_partReset
  | channelReset => exact keepsLock_onChannel fun c s => keepsLock_channelReset
  | cut => exact keepsLock_onChannel fun c s => keepsLock_powerGuard fun _ => keepsLock_cutPower
  | supply => exact keepsLock_hostSupply
  | pressButton => exact keepsLock_hostPulse
  | pulseReset => exact keepsLock_hostPulse
  | setPowerSettings => exact keepsLock_hostSetPowerSettings
  | powerStatus => exact keepsLock_onChannel fun _ => .refl
  | relearnBaud => exact keepsLock_onChannel fun c s => .of_lockView (lockView_relearn s c)
  | setBaudMode => exact keepsLock_hostSetBaudMode
  | setBaudSettings => exact keepsLock_onChannel fun _ _ => keepsLock_onFlag fun _ s => .thenFrame (.refl s)
  | baudStatus => exact keepsLock_onChannel fun _ => .refl
  | setHeartbeatSettings => exact keepsLock_hostSetHeartbeatSettings
  | heartbeatStatus => exact keepsLock_onChannel fun _ => .refl
  | setCaptureLimits => exact keepsLock_hostSetCaptureLimits
  | consoleRead => exact keepsLock_onChannel fun _ => .refl
  | consoleStatus => exact keepsLock_onChannel fun _ => .refl
  | sendConsole => exact keepsLock_hostSendConsole
  | flushConsoleTx =>
    exact keepsLock_onChannel fun c s => .trans (.thenFrame (.refl s)) (.of_lockView (lockView_arbitrate _ c))
  | sendBreak => exact keepsLock_hostSendBreak
  | setTransmitSettings => exact keepsLock_hostSetTransmitSettings
  | transmitStatus => exact keepsLock_onChannel fun _ => .refl
  | setPattern => exact keepsLock_hostSetPattern
  | armMatch => exact keepsLock_hostArmMatch
  | disarmMatch => exact keepsLock_hostDisarmMatch
  | readMatch => exact keepsLock_onUnit fun _ _ => .refl
  | loadDrive => exact keepsLock_hostLoadDrive
  | unloadDrive => exact keepsLock_hostUnloadDrive
  | insert => exact keepsLock_hostInsert
  | eject => exact keepsLock_hostEject
  | setPortPresence => exact keepsLock_hostSetPortPresence
  | driveStatus => exact keepsLock_onDrive fun _ => .refl
  | portStatus => exact keepsLock_onChannel fun _ => .refl
  | takeWants => exact .of_lockView rfl
  | fill => exact keepsLock_hostFill
  | fillFailed => exact keepsLock_hostFillFailed
  | takeSpill => exact keepsLock_hostTakeSpill
  | spillDone => exact keepsLock_hostSpillDone
  | writeRecipe => exact keepsLock_hostWriteRecipe
  | writeKeyString => exact keepsLock_onEight fun _ _ => .of_lockView rfl
  | readRecipe => exact keepsLock_onEight fun _ => .refl
  | readKeyString => exact keepsLock_onEight fun _ => .refl
  | runRecipe => exact keepsLock_hostRunRecipe
  | stopRecipe => exact keepsLock_hostStopRecipe
  | runStatus => exact keepsLock_onChannel fun _ => .refl
  | setTrigger => exact keepsLock_hostSetTrigger
  | rearmTrigger => exact keepsLock_hostRearmTrigger
  | triggerStatus => exact keepsLock_onChannel fun _ => .refl
  | setNoticeMask => exact keepsLock_hostSetNoticeMask
  | readChanges => exact keepsLock_hostReadChanges
  | _ => exact .refl s

/-- A request taken, ignored or not a request at all. -/
theorem keepsLock_takeRequest (i : Instr) {h : Handler} (hh : ∀ s, KeepsLock s (h s).1) :
    KeepsLock s (takeRequest i h s) := by
  unfold takeRequest takeFrame
  dsimp only
  repeat' split
  · exact .trans (.trans (.of_lockView (lockView_shiftOut s _)) (hh _)) (.of_lockView rfl)
  · exact .of_lockView rfl
  · exact .refl s

end Commands

end Sys2Proof.Machine

/-! # The law of the service lock: every command and every step -/

namespace Sys2Proof.Machine

section Steps

variable {s : State} {c : Channel}

/-! ## Commands -/

/-- A command on `s`, obeying the law, leaves a state that obeys it. -/
def NextKeepsLaw (s : State) (o : Outcome) : Prop := s.LockLaw → ∀ t, o = .next t → t.LockLaw

theorem nextKeepsLaw_of_lockLaw {t : State} (h : s.LockLaw → t.LockLaw) : NextKeepsLaw s (.next t) := by
  rintro hs _ ⟨⟩
  exact h hs

theorem KeepsLock.next {t : State} (h : KeepsLock s t) : NextKeepsLaw s (.next t) :=
  nextKeepsLaw_of_lockLaw fun hs => (h hs).1

theorem nextKeepsLaw_of_lockView {t : State} (h : t.lockView = s.lockView) : NextKeepsLaw s (.next t) :=
  (KeepsLock.of_lockView h).next

theorem nextKeepsLaw_ite {p : Prop} [Decidable p] {t : State} (h : t.lockView = s.lockView) :
    NextKeepsLaw s (.next (if p then t else s)) := by
  refine nextKeepsLaw_of_lockView ?_
  split
  · exact h
  · rfl

/-- A host request is the request write of its frame, over its owning rule. -/
theorem exec_of_request {i : Instr} {f : RequestFrame} (h : i.request? = some f) :
    exec i s = .next (takeRequest i (handlerOf i) s) := by
  cases i
  case powerOnReset | badFrame | replyRead | linkOtherTransaction | pgChange | pgQualified | holdoffExpiry | pulseEnd |
      attributionWindowExpiry | lockChange | lockQualifiedLocked | lockQualifiedFree | characterAccepted |
      framingError | baudWindowEnd | hbChange | heartbeatEdge | heartbeatWindowEnd | characterEnd | breakEnd |
      keyCountdownExpiry | rtrAsserted | stallExpiry | pageWaitDeadline | vbusChange | vbusQualified | busReset |
      configuration | deconfiguration | suspend | resume | remoteWakeSetting | queryReady | queryCapacity |
      readBlocks | writeBlocks | removalLock | serverEject | sync | syncDeadline | wantDeadline | wantWaitDeadline |
      wantEntryDeadline | dirtyWaitDeadline | spillDeadline | stepTimeout | delayEnd | quietIntervalEnd |
      triggerHoldoffExpiry | rxdRawChange | survivingEdge | falseStart | heartbeatQualifiedLow => cases h
  all_goals rfl

/-! ### Link transactions that carry no request of their own -/

theorem lockView_readReply (n : Nat) : (readReply n s).lockView = s.lockView := by
  unfold readReply
  dsimp only
  repeat' split
  all_goals rfl

theorem execBadFrame_keepsLaw (l : List Byte) : NextKeepsLaw s (execBadFrame l s) := by
  refine KeepsLock.next ?_
  split
  next i _ => exact keepsLock_takeRequest i (keepsLock_handlerOf i)
  · exact .of_lockView rfl

theorem execLinkOtherTransaction_keepsLaw (first : Option Byte) (n : Nat) :
    NextKeepsLaw s (execLinkOtherTransaction first n s) := by
  refine nextKeepsLaw_of_lockView ?_
  repeat' split
  · rfl
  · rfl
  · exact lockView_readReply n
  · rfl

/-! ### Events of the Power Controller -/

theorem execPgQualified_keepsLaw : NextKeepsLaw s (execPgQualified c s) := by
  refine KeepsLock.next ?_
  split
  · exact .refl s
  · exact .trans (.of_lockView (lockView_advanceTo s _)) keepsLock_qualifyPg

theorem execHoldoffExpiry_keepsLaw : NextKeepsLaw s (execHoldoffExpiry c s) := by
  have hnow (t : Nat) : KeepsLock s (s.advanceTo t) := .of_lockView (lockView_advanceTo s t)
  refine KeepsLock.next ?_
  split
  · dsimp only
    split
    · exact (hnow _).trans keepsLock_assertPen
    · exact .thenFrame (.thenFrame (hnow _))
  · exact .refl s

theorem execPulseEnd_keepsLaw (l : Line) : NextKeepsLaw s (execPulseEnd c l s) := by
  refine KeepsLock.next ?_
  split
  · exact .refl s
  · have hend (t held : Nat) : KeepsLock s (endPulse c l held (s.advanceTo t)) :=
      .trans (.of_lockView (lockView_advanceTo s t)) (keepsLock_endPulse l held)
    dsimp only
    split
    · exact (hend _ _).trans (keepsLock_tellRun _)
    · exact hend _ _

theorem execLockQualifiedLocked_keepsLaw : NextKeepsLaw s (execLockQualifiedLocked c s) := by
  refine nextKeepsLaw_of_lockLaw fun hs => ?_
  split
  · exact lockOn_lockLaw hs
  · exact hs

theorem execLockQualifiedFree_keepsLaw : NextKeepsLaw s (execLockQualifiedFree c s) := by
  refine nextKeepsLaw_of_lockLaw fun hs => ?_
  split
  · exact lockFree_lockLaw (s := s.advanceTo _) hs
  · exact hs

/-! ### Events of the monitors and the receiver -/

theorem execRxdRawChange_keepsLaw (level : Bool) (gap : Nat) : NextKeepsLaw s (execRxdRawChange c level gap s) := by
  have hticks : (s.advanceTicks gap).lockView = s.lockView := rfl
  refine nextKeepsLaw_of_lockView ?_
  repeat' split
  all_goals simp [hticks]

theorem execSurvivingEdge_keepsLaw : NextKeepsLaw s (execSurvivingEdge c s) := by
  refine nextKeepsLaw_of_lockView ?_
  split <;> simp

theorem execHeartbeatEdge_keepsLaw : NextKeepsLaw s (execHeartbeatEdge c s) := by
  have hcount (t : State) : (countEdge c t).lockView = t.lockView := by
    unfold countEdge
    split <;> simp
  refine nextKeepsLaw_of_lockView ?_
  split <;> simp [hcount]

theorem execHeartbeatQualifiedLow_keepsLaw : NextKeepsLaw s (execHeartbeatQualifiedLow c s) := by
  refine nextKeepsLaw_of_lockView ?_
  split <;> simp

theorem keepsLock_watchWindow : KeepsLock s (watchWindow c s) := by
  have hlow (n : Nat) (t : State) : KeepsLock t (compareLow c n t) := by
    unfold compareLow raiseHang
    dsimp only
    repeat' split
    · refine .trans ?_ (keepsLock_deliver _)
      exact .thenFrame (.thenFrame (.thenFrame (.refl t)))
    · exact .thenFrame (.refl t)
    · exact .thenFrame (.refl t)
  have hfast (n : Nat) (t : State) : KeepsLock t (compareFast c n t) := by
    unfold compareFast
    dsimp only
    repeat' split
    · exact .refl t
    · refine .trans ?_ (keepsLock_deliver _)
      exact .thenFrame (.thenFrame (.thenFrame (.refl t)))
    · exact .thenFrame (.refl t)
  have hboth (n : Nat) : KeepsLock s (compareFast c n (compareLow c n (holdCount c s))) := by
    refine .trans (.trans ?_ (hlow n _)) (hfast n _)
    exact .thenFrame (.refl s)
  unfold watchWindow
  dsimp only
  split
  · exact (hboth _).trans (keepsLock_tellRun _)
  · exact hboth _

theorem execHeartbeatWindowEnd_keepsLaw : NextKeepsLaw s (execHeartbeatWindowEnd c s) := by
  refine KeepsLock.next ?_
  split
  · exact .trans (.of_lockView (lockView_advanceTo s _)) keepsLock_watchWindow
  · exact .refl s

theorem execCharacterAccepted_keepsLaw : NextKeepsLaw s (execCharacterAccepted c s) := by
  refine KeepsLock.next ?_
  repeat' split
  · exact .refl s
  · exact .trans (.thenFrame (.of_lockView (lockView_advanceTo s _))) (keepsLock_acceptByte _)
  · exact .refl s

theorem execFramingError_keepsLaw : NextKeepsLaw s (execFramingError c s) := by
  refine nextKeepsLaw_of_lockView ?_
  repeat' split
  all_goals simp [countFraming]

theorem execFalseStart_keepsLaw : NextKeepsLaw s (execFalseStart c s) := by
  refine nextKeepsLaw_of_lockView ?_
  repeat' split
  all_goals simp

/-! ### Events of the transmitter -/

/-- An end keeps the law where its steps do. -/
theorem keepsLock_settleEnd {f : State → State} (h : ∀ s, KeepsLock s (f s)) : KeepsLock s (settleEnd c f s) :=
  .trans (.thenFrame (.trans (.thenFrame (.refl s)) (h _))) (.of_lockView (lockView_arbitrate _ c))

theorem execCharacterEnd_keepsLaw : NextKeepsLaw s (execCharacterEnd c s) := by
  have hpass (t : State) : KeepsLock t (endPass c t) := by
    unfold endPass
    dsimp only
    repeat' split
    · exact .refl t
    · exact .trans (.thenFrame (.refl t)) (keepsLock_tellRun _)
    · exact .thenFrame (.refl t)
    · exact .refl t
  refine KeepsLock.next ?_
  split
  · exact .refl s
  · exact .trans (.of_lockView (lockView_advanceTo s _))
      (keepsLock_settleEnd fun t => .trans (.thenFrame (.refl t)) (hpass _))

theorem execBreakEnd_keepsLaw : NextKeepsLaw s (execBreakEnd c s) := by
  refine KeepsLock.next ?_
  split
  · refine .trans (.of_lockView (lockView_advanceTo s _)) (keepsLock_settleEnd fun t => ?_)
    have hend (n : Nat) : KeepsLock t (endBreak c n t) := .of_lockView (lockView_endBreak t c n)
    dsimp only
    split
    · exact (hend _).trans (keepsLock_tellRun _)
    · exact hend _
  · exact .refl s

theorem execKeyCountdownExpiry_keepsLaw : NextKeepsLaw s (execKeyCountdownExpiry c s) := by
  refine nextKeepsLaw_of_lockView ?_
  repeat' split
  all_goals simp

theorem execRtrAsserted_keepsLaw (level : Bool) : NextKeepsLaw s (execRtrAsserted c level s) := by
  refine nextKeepsLaw_of_lockView ?_
  split <;> simp [lockView_endHold]

theorem execStallExpiry_keepsLaw : NextKeepsLaw s (execStallExpiry c s) := by
  refine nextKeepsLaw_of_lockView ?_
  repeat' split
  all_goals simp

/-! ### Events of the ports and of the cache -/

theorem execVbusQualified_keepsLaw : NextKeepsLaw s (execVbusQualified c s) := by
  have hact (t : State) : (actOnVbus c t).lockView = t.lockView := by
    unfold actOnVbus
    dsimp only
    repeat' split
    all_goals simp
  refine nextKeepsLaw_of_lockView ?_
  split <;> simp [hact]

theorem execBusReset_keepsLaw : NextKeepsLaw s (execBusReset c s) := by
  refine nextKeepsLaw_of_lockView ?_
  split <;> simp

theorem serverRequest_keepsLaw (r : Request) {act : DriveNo → State → State}
    (h : ∀ d s, (act d s).lockView = s.lockView) : NextKeepsLaw s (.next (serverRequest c r act s)) :=
  nextKeepsLaw_of_lockView (lockView_serverRequest s c r h)

theorem lockView_expireWait (t : Nat) : (expireWait c t s).lockView = s.lockView := lockView_endRequest _ c _

theorem execSyncDeadline_keepsLaw : NextKeepsLaw s (execSyncDeadline c s) := by
  refine nextKeepsLaw_of_lockView ?_
  split
  · exact lockView_expireWait _
  · rfl

theorem execWantWaitDeadline_keepsLaw : NextKeepsLaw s (execWantWaitDeadline c s) := by
  refine nextKeepsLaw_of_lockView ?_
  split
  · exact lockView_expireWait _
  · rfl

theorem execWantEntryDeadline_keepsLaw : NextKeepsLaw s (execWantEntryDeadline c s) := by
  refine nextKeepsLaw_of_lockView ?_
  split
  · exact lockView_expireWait _
  · rfl

theorem execPageWaitDeadline_keepsLaw : NextKeepsLaw s (execPageWaitDeadline c s) := by
  refine nextKeepsLaw_of_lockView ?_
  split
  · exact lockView_expireWait _
  · rfl

theorem execDirtyWaitDeadline_keepsLaw : NextKeepsLaw s (execDirtyWaitDeadline c s) := by
  refine nextKeepsLaw_of_lockView ?_
  split
  · exact lockView_expireWait _
  · rfl

theorem execWantDeadline_keepsLaw (want : Byte) : NextKeepsLaw s (execWantDeadline want s) := by
  refine nextKeepsLaw_of_lockView ?_
  split <;> simp

theorem execSpillDeadline_keepsLaw (spill : Byte) : NextKeepsLaw s (execSpillDeadline spill s) := by
  refine nextKeepsLaw_of_lockView ?_
  split <;> simp

/-! ### Deadlines of steps and slots -/

theorem keepsLock_finishWaitAt (t : Nat) (o : StepOutcome) : KeepsLock s (finishWait c o (s.advanceTo t)) :=
  .trans (.of_lockView (lockView_advanceTo s t)) (keepsLock_finishWait o)

theorem execStepTimeout_keepsLaw : NextKeepsLaw s (execStepTimeout c s) := by
  refine KeepsLock.next ?_
  split
  · exact .refl s
  · exact keepsLock_finishWaitAt _ _

theorem execDelayEnd_keepsLaw : NextKeepsLaw s (execDelayEnd c s) := by
  refine KeepsLock.next ?_
  split
  · exact keepsLock_finishWaitAt _ _
  · exact .refl s

theorem execQuietIntervalEnd_keepsLaw : NextKeepsLaw s (execQuietIntervalEnd c s) := by
  refine KeepsLock.next ?_
  split
  · exact keepsLock_finishWaitAt _ _
  · exact .refl s

theorem execTriggerHoldoffExpiry_keepsLaw (i : SlotNo) : NextKeepsLaw s (execTriggerHoldoffExpiry c i s) := by
  refine nextKeepsLaw_of_lockView ?_
  split <;> simp

/-! ### Every command -/

/-- Every command keeps the law: a host request by its owning rule, any other command by its own meaning. -/
theorem exec_keepsLaw (i : Instr) (s : State) : NextKeepsLaw s (exec i s) := by
  cases hf : i.request? with
  | some f =>
    rw [exec_of_request hf]
    exact (keepsLock_takeRequest i (keepsLock_handlerOf i)).next
  | none =>
    cases i with
    | powerOnReset pins => exact nextKeepsLaw_of_lockLaw fun _ => powerOn_lockLaw s.now pins
    | badFrame l => exact execBadFrame_keepsLaw l
    | replyRead n => exact nextKeepsLaw_of_lockView (lockView_readReply n)
    | linkOtherTransaction first n => exact execLinkOtherTransaction_keepsLaw first n
    | pgChange c level => exact nextKeepsLaw_of_lockView (lockView_modChan s c _ fun _ => rfl)
    | pgQualified c => exact execPgQualified_keepsLaw
    | holdoffExpiry c => exact execHoldoffExpiry_keepsLaw
    | pulseEnd c l => exact execPulseEnd_keepsLaw l
    | attributionWindowExpiry c l => exact nextKeepsLaw_of_lockView (lockView_advanceTo s _)
    | lockChange c level => exact nextKeepsLaw_of_lockView (lockView_modChan s c _ fun _ => rfl)
    | lockQualifiedLocked c => exact execLockQualifiedLocked_keepsLaw
    | lockQualifiedFree c => exact execLockQualifiedFree_keepsLaw
    | characterAccepted c => exact execCharacterAccepted_keepsLaw
    | framingError c => exact execFramingError_keepsLaw
    | baudWindowEnd c => exact nextKeepsLaw_of_lockView (lockView_baudWindow _ c)
    | hbChange c level => exact nextKeepsLaw_of_lockView (lockView_modChan s c _ fun _ => rfl)
    | heartbeatEdge c => exact execHeartbeatEdge_keepsLaw
    | heartbeatWindowEnd c => exact execHeartbeatWindowEnd_keepsLaw
    | characterEnd c => exact execCharacterEnd_keepsLaw
    | breakEnd c => exact execBreakEnd_keepsLaw
    | keyCountdownExpiry c => exact execKeyCountdownExpiry_keepsLaw
    | rtrAsserted c level => exact execRtrAsserted_keepsLaw level
    | stallExpiry c => exact execStallExpiry_keepsLaw
    | pageWaitDeadline c => exact execPageWaitDeadline_keepsLaw
    | vbusChange c level => exact nextKeepsLaw_of_lockView (lockView_modChan s c _ fun _ => rfl)
    | vbusQualified c => exact execVbusQualified_keepsLaw
    | busReset c => exact execBusReset_keepsLaw
    | configuration c => exact nextKeepsLaw_ite (lockView_enterConfigured s c)
    | deconfiguration c => exact nextKeepsLaw_ite (lockView_dropBus s c .attached)
    | suspend c => exact nextKeepsLaw_ite (lockView_setPortState s c .suspended)
    | resume c => exact nextKeepsLaw_ite (lockView_enterConfigured s c)
    | remoteWakeSetting c on => exact nextKeepsLaw_ite (lockView_modChan s c _ fun _ => rfl)
    | queryReady c => exact serverRequest_keepsLaw _ fun _ t => lockView_complete t c _
    | queryCapacity c => exact serverRequest_keepsLaw _ fun d t => lockView_capacityRequest t c d
    | readBlocks c lba n => exact serverRequest_keepsLaw _ fun d t => lockView_readRequest t c d lba n
    | writeBlocks c lba n data => exact serverRequest_keepsLaw _ fun d t => lockView_writeRequest t c d lba n
    | removalLock c on => exact serverRequest_keepsLaw _ fun d t => lockView_lockRequest t c d on
    | serverEject c => exact serverRequest_keepsLaw _ fun d t => lockView_ejectRequest t c d
    | sync c => exact serverRequest_keepsLaw _ fun d t => lockView_syncRequest t c d
    | syncDeadline c => exact execSyncDeadline_keepsLaw
    | wantDeadline want => exact execWantDeadline_keepsLaw want
    | wantWaitDeadline c => exact execWantWaitDeadline_keepsLaw
    | wantEntryDeadline c => exact execWantEntryDeadline_keepsLaw
    | dirtyWaitDeadline c => exact execDirtyWaitDeadline_keepsLaw
    | spillDeadline spill => exact execSpillDeadline_keepsLaw spill
    | stepTimeout c => exact execStepTimeout_keepsLaw
    | delayEnd c => exact execDelayEnd_keepsLaw
    | quietIntervalEnd c => exact execQuietIntervalEnd_keepsLaw
    | triggerHoldoffExpiry c i => exact execTriggerHoldoffExpiry_keepsLaw i
    | rxdRawChange c level gap => exact execRxdRawChange_keepsLaw level gap
    | survivingEdge c => exact execSurvivingEdge_keepsLaw
    | falseStart c => exact execFalseStart_keepsLaw
    | heartbeatQualifiedLow c => exact execHeartbeatQualifiedLow_keepsLaw
    | _ => cases hf

end Steps

/-- Settles O56: a step is a millisecond of waiting, or a command on the queue's rest. -/
theorem theLockLawIsKept : Obligations.TheLockLawIsKept := by
  intro s t hs ht
  unfold step at ht
  split at ht
  · cases ht
    exact hs
  next i rest _ => exact exec_keepsLaw i (s.withPending rest) hs t ht

end Sys2Proof.Machine

/-! # A relearn of the Baud Finder (R29) -/

namespace Sys2Proof.Machine

section Relearn

variable {s : State} {c : Channel}

/-- A relearn replaces one channel's record. LOCKED is the case with something to see: the window restarts after
the marker, the flag and the units' progress, none of which it reads or changes. -/
theorem relearn_eq_relearned : relearn c s = s.putChan c ((s.chan c).relearned s.now s.uptime) := by
  unfold relearn ChannelState.relearned
  cases hstate : (s.chan c).finder.state with
  | hunting => rfl
  | locked => simp [loseLock, resetProgress, modChan_eq_putChan, ChannelState.mark, ChannelState.flag,
      Finder.restartWindow]
  | fixed => exact (putChan_chan s c).symm

theorem hostRelearnBaud_some {ch : Byte} (hc : ident? 8 ch = some c) :
    hostRelearnBaud ch s = (s.putChan c ((s.chan c).relearned s.now s.uptime),
      ⟨.ok, put1 ((s.chan c).relearned s.now s.uptime).finder.state.code⟩) := by
  rw [hostRelearnBaud, onChannel_some hc, relearn_eq_relearned, done, chan_putChan]

end Relearn

/-- Settles O12: the request, the step and the power-up signal all do the one relearn. -/
theorem relearnSendsTheFinderHunting : Obligations.RelearnSendsTheFinderHunting := by
  refine ⟨fun s tag ch hr => congrArg Host.Outcome.next ?_, fun s c r => ?_, fun s c => ?_⟩
  · cases hc : ident? 8 ch with
    | none => exact takeRequest_answered rfl hr rfl (onChannel_none hc)
    | some c => exact takeRequest_answered rfl hr rfl (hostRelearnBaud_some hc)
  · rw [act, relearn_eq_relearned]
  · rw [powerUpSignal, relearn_eq_relearned]

end Sys2Proof.Machine

/-! # A match unit's progress (R77, R78): the longest start of the pattern that ends the whole text -/

namespace Sys2Proof.Machine

section Progress

/-! ## The longest start of a pattern that ends a text -/

/-- `k` is the largest number up to `n` such that the first `k` bytes of the pattern end the text (R78). -/
def LongestEnding (pattern text : List Byte) (n k : Nat) : Prop :=
  k ≤ n ∧ pattern.take k <:+ text ∧ ∀ j, j ≤ n → pattern.take j <:+ text → j ≤ k

variable {pattern text : List Byte} {n k p : Nat}

theorem LongestEnding.unique {k' : Nat} (h : LongestEnding pattern text n k) (h' : LongestEnding pattern text n k') :
    k = k' := by
  obtain ⟨hle, hends, hmax⟩ := h
  obtain ⟨hle', hends', hmax'⟩ := h'
  exact Nat.le_antisymm (hmax' k hle hends) (hmax k' hle' hends')

/-- Where the whole length allowed does not end the text, the longest is the longest of the shorter ones. -/
theorem LongestEnding.of_lt {m : Nat} (h : LongestEnding pattern text n k) (hk : k ≤ m) (hm : m ≤ n) :
    LongestEnding pattern text m k := by
  obtain ⟨-, hends, hmax⟩ := h
  exact ⟨hk, hends, fun j hj => hmax j (hj.trans hm)⟩

/-- Before any byte only the empty list ends the text. -/
theorem longestEnding_nil (hn : n ≤ pattern.length) : LongestEnding pattern [] n 0 := by
  refine ⟨Nat.zero_le n, List.suffix_refl _, fun j hj hends => ?_⟩
  have hlen := congrArg List.length (List.suffix_nil.1 hends)
  rw [List.length_take, List.length_nil] at hlen
  omega

/-- The comparison the model makes with the last bytes of a text says that a start of the pattern ends it. -/
theorem drop_eq_take_iff (hk : k ≤ pattern.length) :
    text.drop (text.length - k) = pattern.take k ↔ pattern.take k <:+ text := by
  rw [List.suffix_iff_eq_drop, List.length_take, Nat.min_eq_left hk]
  exact eq_comm

/-- What the model searches for from above is the longest. -/
theorem overlap_longestEnding (hn : n ≤ pattern.length) :
    LongestEnding pattern text n (overlap pattern text n) := by
  induction n with
  | zero => exact ⟨Nat.le_refl 0, List.nil_suffix, fun _ hj _ => hj⟩
  | succ n ih =>
    obtain ⟨hle, hends, hmax⟩ := ih (Nat.le_of_succ_le hn)
    unfold overlap
    split
    next hwhole => exact ⟨Nat.le_refl _, (drop_eq_take_iff hn).1 hwhole, fun _ hj _ => hj⟩
    next hwhole =>
      refine ⟨Nat.le_succ_of_le hle, hends, fun j hj hj' => ?_⟩
      rcases Nat.le_succ_iff.1 hj with hlt | rfl
      · exact hmax j hlt hj'
      · exact absurd ((drop_eq_take_iff hn).2 hj') hwhole

/-- The whole length allowed is found exactly where it ends the text. -/
theorem overlap_eq_bound_iff (hn : n ≤ pattern.length) :
    overlap pattern text n = n ↔ pattern.take n <:+ text := by
  obtain ⟨hle, hends, hmax⟩ := overlap_longestEnding (text := text) hn
  exact ⟨fun h => h ▸ hends, fun h => Nat.le_antisymm hle (hmax n (Nat.le_refl n) h)⟩

/-! ## One more byte -/

/-- A start of the pattern that ends a text with one more byte is one byte longer than one that ends the text; so the
longest proper one stands for the whole text before. -/
theorem take_suffix_concat_iff (h : LongestEnding pattern text (pattern.length - 1) p) (b : Byte) {j : Nat}
    (hj : j ≤ pattern.length) : pattern.take j <:+ pattern.take p ++ [b] ↔ pattern.take j <:+ text ++ [b] := by
  obtain ⟨-, hends, hmax⟩ := h
  cases j with
  | zero => simp
  | succ i =>
    have hlast (l : List Byte) := List.suffix_append_inj_of_length_eq (l₁ := pattern.take i) (l₂ := l)
      (s₁ := [pattern[i]]) (s₂ := [b]) rfl
    rw [List.take_succ_eq_append_getElem hj, hlast, hlast]
    refine and_congr_left fun _ => ⟨fun hi => hi.trans hends, fun hi => ?_⟩
    have hip : i ≤ p := hmax i (by omega) hi
    exact List.suffix_of_suffix_length_le hi hends (by simp only [List.length_take]; omega)

/-- The search over the bytes that bear on the next match finds what one over the whole text would (R78). -/
theorem longestEnding_concat (h : LongestEnding pattern text (pattern.length - 1) p) (b : Byte)
    (hn : n ≤ pattern.length) :
    LongestEnding pattern (text ++ [b]) n (overlap pattern (pattern.take p ++ [b]) n) := by
  obtain ⟨hle, hends, hmax⟩ := overlap_longestEnding (text := pattern.take p ++ [b]) hn
  exact ⟨hle, (take_suffix_concat_iff h b (hle.trans hn)).1 hends, fun j hj hj' =>
    hmax j hj ((take_suffix_concat_iff h b (hj.trans hn)).2 hj')⟩

/-! ## What a byte does to a unit (R76, R78, R81) -/

variable {u : MatchUnit} {b : Byte}

theorem see_of_completes (h : u.completes b = true) : u.see b = u.hit b := if_pos h

theorem see_of_not_completes (hu : u.state = .armed) (h : u.completes b = false) :
    u.see b = { u with progress := overlap u.folded (u.seen b) u.pattern.length } := by
  simp [MatchUnit.see, h, hu]

theorem see_of_not_armed (hu : u.state ≠ .armed) : u.see b = u := by
  simp [MatchUnit.see, MatchUnit.completes, hu]

/-- A byte changes neither the stored bytes nor how they are compared (R77). -/
theorem see_settings (u : MatchUnit) (b : Byte) : (u.see b).pattern = u.pattern ∧ (u.see b).fold = u.fold := by
  unfold MatchUnit.see
  split
  · exact ⟨rfl, rfl⟩
  · split <;> exact ⟨rfl, rfl⟩

theorem see_folded (u : MatchUnit) (b : Byte) : (u.see b).folded = u.folded := by
  obtain ⟨hpattern, hfold⟩ := see_settings u b
  rw [MatchUnit.folded, hpattern, hfold, MatchUnit.folded]

theorem length_folded (u : MatchUnit) : u.folded.length = u.pattern.length := List.length_map _

/-- A unit that a byte leaves ARMED was ARMED. -/
theorem armed_of_see_armed (h : (u.see b).state = .armed) : u.state = .armed := by
  by_contra hu
  exact hu (see_of_not_armed hu ▸ h)

theorem completes_iff (hu : u.state = .armed) :
    u.completes b = true ↔ u.folded <:+ u.seen b := by
  have hbound := overlap_eq_bound_iff (pattern := u.folded) (text := u.seen b) (Nat.le_refl _)
  rw [List.take_length, length_folded] at hbound
  simp [MatchUnit.completes, hu, hbound]

/-! ## The progress after a text -/

/-- The unit's progress is the longest proper start of its pattern that ends the folded text. -/
def MatchUnit.Follows (u : MatchUnit) (seen : List Byte) : Prop :=
  LongestEnding u.folded seen (u.folded.length - 1) u.progress

variable {seen : List Byte}

theorem follows_nil (hp : u.progress = 0) : u.Follows [] := by
  rw [MatchUnit.Follows, hp]
  exact longestEnding_nil (Nat.sub_le _ _)

theorem completes_iff_of_follows (h : u.Follows seen) (hu : u.state = .armed) :
    u.completes b = true ↔ u.folded <:+ seen ++ [foldByte u.fold b] := by
  have htake := take_suffix_concat_iff h (foldByte u.fold b) (Nat.le_refl _)
  rw [List.take_length] at htake
  exact (completes_iff hu).trans htake

/-- A hit that leaves the unit ARMED keeps the longest proper start of its pattern; a byte that completes no match has
the longest of all, which is not the whole (R78, R81). -/
theorem follows_see (h : u.Follows seen) (hs : (u.see b).state = .armed) :
    (u.see b).Follows (seen ++ [foldByte u.fold b]) := by
  have hu := armed_of_see_armed hs
  rw [MatchUnit.Follows, see_folded]
  cases hc : u.completes b with
  | true =>
    rw [see_of_completes hc] at hs ⊢
    have hcounting : u.counting = true := by
      by_contra hone
      simp [MatchUnit.hit, hone] at hs
    have hprogress : (u.hit b).progress = overlap u.folded (u.seen b) (u.folded.length - 1) := by
      rw [length_folded]
      exact if_pos hcounting
    rw [hprogress]
    exact longestEnding_concat h _ (Nat.sub_le _ _)
  | false =>
    rw [see_of_not_completes hu hc, ← length_folded]
    have hlongest := longestEnding_concat h (foldByte u.fold b) (Nat.le_refl _)
    have hne : overlap u.folded (u.seen b) u.folded.length ≠ u.folded.length := fun he => by
      rw [overlap_eq_bound_iff (Nat.le_refl _), List.take_length, ← completes_iff hu, hc] at he
      cases he
    exact hlongest.of_lt (Nat.le_sub_one_of_lt (Nat.lt_of_le_of_ne hlongest.1 hne)) (Nat.sub_le _ _)

/-- A unit after a text fed to it byte by byte. -/
def MatchUnit.read (u : MatchUnit) (text : List Byte) : MatchUnit := text.foldl (fun u b => u.see b) u

theorem read_concat (u : MatchUnit) (text : List Byte) (b : Byte) : u.read (text ++ [b]) = (u.read text).see b :=
  List.foldl_concat ..

theorem read_settings (u : MatchUnit) (text : List Byte) :
    (u.read text).pattern = u.pattern ∧ (u.read text).fold = u.fold := by
  induction text using List.reverseRecOn with
  | nil => exact ⟨rfl, rfl⟩
  | append_singleton text b ih =>
    obtain ⟨hpattern, hfold⟩ := see_settings (u.read text) b
    rw [read_concat, hpattern, hfold]
    exact ih

theorem read_folded (u : MatchUnit) (text : List Byte) : (u.read text).folded = u.folded := by
  obtain ⟨hpattern, hfold⟩ := read_settings u text
  rw [MatchUnit.folded, hpattern, hfold, MatchUnit.folded]

/-- A unit that starts with progress 0 follows every text that leaves it ARMED. -/
theorem follows_read (hp : u.progress = 0) (text : List Byte) (hs : (u.read text).state = .armed) :
    (u.read text).Follows (text.map (foldByte u.fold)) := by
  induction text using List.reverseRecOn with
  | nil => exact follows_nil hp
  | append_singleton text b ih =>
    rw [read_concat] at hs ⊢
    obtain ⟨-, hfold⟩ := read_settings u text
    rw [List.map_append, List.map_singleton, ← hfold]
    exact follows_see (hfold ▸ ih (armed_of_see_armed hs)) hs

/-! ## Folding (R77) -/

theorem foldByte_off (b : Byte) : foldByte false b = b := rfl

theorem foldByte_letter (h : 0x41 ≤ b.toNat ∧ b.toNat ≤ 0x5A) : foldByte true b = b + 0x20 := if_pos ⟨rfl, h⟩

theorem foldByte_other (h : b.toNat < 0x41 ∨ 0x5A < b.toNat) : foldByte true b = b :=
  if_neg fun ⟨_, hlo, hhi⟩ => by omega

end Progress

/-- Settles O26, by induction over the text from its last byte: an ARMED unit's progress stands for the whole text
before, so the search over the few bytes kept finds what a search over all of them would. -/
theorem matchProgressFollowsTheWholeText : Obligations.MatchProgressFollowsTheWholeText := by
  refine ⟨fun b u => ⟨foldByte_off b, foldByte_letter, foldByte_other, rfl, (see_settings u b).1⟩,
    fun u text b _ hp hne hs => ?_, fun u b hu => ⟨fun hcounting => ?_, fun hc hone => ?_, fun hc => ?_⟩⟩
  · have hfollows : (u.read text).Follows (text.map (foldByte u.fold)) := follows_read hp text hs
    have hcompletes := completes_iff_of_follows (b := b) hfollows hs
    rw [read_folded, (read_settings u text).2] at hcompletes
    rw [MatchUnit.Follows, read_folded, length_folded] at hfollows
    obtain ⟨hle, hends, hmax⟩ := hfollows
    have hpos := List.length_pos_of_ne_nil hne
    exact ⟨Nat.lt_of_le_sub_one hpos hle, hends, fun k hk => hmax k (Nat.le_sub_one_of_lt hk), hcompletes⟩
  · cases hc : u.completes b with
    | true =>
      rw [see_of_completes hc]
      exact if_pos hcounting
    | false => rw [see_of_not_completes hu hc, hu]
  · rw [see_of_completes hc]
    simp [MatchUnit.hit, hone]
  · rw [see_of_not_completes hu hc]

end Sys2Proof.Machine

/-! # What a run is told, with another link: neither the blocks nor the Recipe Engine read the link -/

namespace Sys2Proof.Machine

section OtherLink

variable (s : State) (l : Link) (c : Channel) (d : DriveNo)

/-! ## Reading and replacing a record -/

@[simp] theorem chan_withLink : (s.withLink l).chan c = s.chan c := rfl
@[simp] theorem drive_withLink : (s.withLink l).drive d = s.drive d := rfl
@[simp] theorem uptime_withLink : (s.withLink l).uptime = s.uptime := rfl
@[simp] theorem now_withLink : (s.withLink l).now = s.now := rfl
@[simp] theorem recipe_withLink (k : RecipeNo) : (s.withLink l).recipe k = s.recipe k := rfl
@[simp] theorem run_withLink : (s.withLink l).run c = s.run c := rfl
@[simp] theorem request_withLink : (s.withLink l).request c = s.request c := rfl
@[simp] theorem boundDrive_withLink : (s.withLink l).boundDrive c = s.boundDrive c := rfl
@[simp] theorem page_withLink (i : Nat) : (s.withLink l).page d i = s.page d i := rfl
@[simp] theorem wantOf_withLink (i : Nat) : (s.withLink l).wantOf d i = s.wantOf d i := rfl
@[simp] theorem cleanList_withLink : (s.withLink l).cleanList = s.cleanList := rfl
@[simp] theorem pageWaiters_withLink : (s.withLink l).pageWaiters = s.pageWaiters := rfl
@[simp] theorem entryWaiters_withLink : (s.withLink l).entryWaiters = s.entryWaiters := rfl

@[simp] theorem modChan_withLink (f : ChannelState → ChannelState) :
    modChan c f (s.withLink l) = (modChan c f s).withLink l := rfl

@[simp] theorem modDrive_withLink (f : Drive → Drive) :
    modDrive d f (s.withLink l) = (modDrive d f s).withLink l := rfl

/-! ## Choices and loops -/

/-- The state of a result with another link; what the result says besides is unchanged. -/
def relinked {α : Type} (l : Link) (x : State × α) : State × α := (x.1.withLink l, x.2)

section Choices

variable {s l} {p : Prop} [Decidable p]

theorem ite_withLink {a b a' b' : State} (ha : a' = a.withLink l) (hb : b' = b.withLink l) :
    (if p then a' else b') = (if p then a else b).withLink l := by
  subst ha hb
  exact (apply_ite (State.withLink · l) p a b).symm

theorem ite_relinked {α : Type} {a b a' b' : State × α} (ha : a' = relinked l a) (hb : b' = relinked l b) :
    (if p then a' else b') = relinked l (if p then a else b) := by
  subst ha hb
  exact (apply_ite (relinked l) p a b).symm

theorem foldl_withLink {α : Type} {f : State → α → State} (h : ∀ s a, f (s.withLink l) a = (f s a).withLink l)
    (as : List α) : as.foldl f (s.withLink l) = (as.foldl f s).withLink l := by
  induction as generalizing s with
  | nil => rfl
  | cons a as ih => rw [List.foldl_cons, h, ih, List.foldl_cons]

end Choices

/-! ## The pool and the cache -/

@[simp] theorem takePage_withLink : takePage (s.withLink l) = (takePage s).withLink l := by
  have hevict : evict (s.withLink l) = (evict s).withLink l := by
    simp only [evict, cleanList_withLink]
    split <;> rfl
  exact ite_withLink hevict rfl

@[simp] theorem setWait_withLink (w : Option Wait) : setWait c w (s.withLink l) = (setWait c w s).withLink l := rfl

@[simp] theorem endRequest_withLink (st : Completion) :
    endRequest c st (s.withLink l) = (endRequest c st s).withLink l := rfl

theorem joinWant_withLink (i : Nat) : joinWant c d i (s.withLink l) = (joinWant c d i s).withLink l := by
  simp only [joinWant, wantOf_withLink]
  split <;> rfl

theorem createWant_withLink (i : Nat) (cs : List Channel) :
    createWant d i cs (s.withLink l) = (createWant d i cs s).withLink l := by
  simp only [createWant, takePage_withLink]
  rfl

theorem readahead_withLink (n i : Nat) : readahead d n i (s.withLink l) = (readahead d n i s).withLink l := by
  induction n generalizing i s with
  | zero => rfl
  | succ n ih =>
    simp only [readahead, createWant_withLink, ih]
    exact ite_withLink rfl (ite_withLink rfl (ite_withLink rfl rfl))

theorem demandWant_withLink (i : Nat) : demandWant c d i (s.withLink l) = (demandWant c d i s).withLink l := by
  simp only [demandWant, createWant_withLink, setWait_withLink, readahead_withLink]
  exact ite_withLink rfl (ite_withLink rfl rfl)

theorem readStep_withLink (k : Descriptor) (x : Cursor) :
    readStep c d k x (s.withLink l) = relinked l (readStep c d k x s) := by
  simp only [readStep, page_withLink, demandWant_withLink, joinWant_withLink]
  repeat' split
  all_goals rfl

theorem writeStep_withLink (k : Descriptor) (r : Request) (x : Cursor) :
    writeStep c d k r x (s.withLink l) = relinked l (writeStep c d k r x s) := by
  simp only [writeStep, page_withLink, joinWant_withLink, demandWant_withLink, takePage_withLink]
  split
  · split
    · rfl
    · rfl
    · rfl
    · rfl
    · exact ite_relinked rfl (ite_relinked rfl rfl)
  · exact ite_relinked (ite_relinked rfl (ite_relinked rfl rfl)) rfl

theorem pageStep_withLink (r : Request) : pageStep c d r (s.withLink l) = relinked l (pageStep c d r s) := by
  unfold pageStep
  dsimp only
  split
  · exact readStep_withLink ..
  · exact writeStep_withLink ..
  · rfl

theorem carryOn_withLink (n : Nat) : carryOn c d n (s.withLink l) = (carryOn c d n s).withLink l := by
  induction n generalizing s with
  | zero => rfl
  | succ n ih =>
    simp only [carryOn, request_withLink, pageStep_withLink, relinked, ih]
    split
    · rfl
    · exact ite_withLink rfl (ite_withLink rfl rfl)

@[simp] theorem resumeRequest_withLink : resumeRequest c (s.withLink l) = (resumeRequest c s).withLink l := by
  simp only [resumeRequest, request_withLink, boundDrive_withLink, setWait_withLink, carryOn_withLink]
  split <;> rfl

@[simp] theorem servePages_withLink : servePages (s.withLink l) = (servePages s).withLink l := by
  suffices h : ∀ n s, servePageWaiters n (s.withLink l) = (servePageWaiters n s).withLink l from h _ s
  intro n
  induction n with
  | zero => intro s; rfl
  | succ n ih =>
    intro s
    simp only [servePageWaiters, pageWaiters_withLink]
    split
    · rfl
    next w rest _ =>
      have hresume := resumeRequest_withLink { s with pageWaiters := rest } l w.channel
      exact ite_withLink ((congrArg _ hresume).trans (ih _)) rfl

@[simp] theorem serveEntries_withLink : serveEntries (s.withLink l) = (serveEntries s).withLink l := by
  suffices h : ∀ n s, serveEntryWaiters n (s.withLink l) = (serveEntryWaiters n s).withLink l from h _ s
  intro n
  induction n with
  | zero => intro s; rfl
  | succ n ih =>
    intro s
    simp only [serveEntryWaiters, entryWaiters_withLink]
    split
    · rfl
    next w rest _ =>
      have hresume := resumeRequest_withLink { s with entryWaiters := rest } l w.channel
      exact ite_withLink ((congrArg _ hresume).trans (ih _)) rfl

@[simp] theorem testDrain_withLink : testDrain d (s.withLink l) = (testDrain d s).withLink l :=
  ite_withLink rfl rfl

/-! ## The drives and the ports -/

@[simp] theorem insertDrive_withLink : insertDrive d c (s.withLink l) = (insertDrive d c s).withLink l := by
  have hwake (t : State) : wakePort c (t.withLink l) = (wakePort c t).withLink l := ite_withLink rfl rfl
  simp [insertDrive, hwake]

@[simp] theorem enterDraining_withLink (own : Bool) (why : OutReason) :
    enterDraining own d why (s.withLink l) = (enterDraining own d why s).withLink l := by
  have hunbind : ∀ ch t, unbind d ch (t.withLink l) = (unbind d ch t).withLink l := fun _ _ => rfl
  have hposted (t : State) : dropPosted d (t.withLink l) = (dropPosted d t).withLink l :=
    foldl_withLink (fun _ _ => rfl) _
  simp only [enterDraining, drive_withLink]
  split
  · rfl
  · cases own <;> simp [hunbind, hposted]

theorem ejectDrive_withLink (force : Bool) (why : OutReason) :
    ejectDrive d force why (s.withLink l) = (ejectDrive d force why s).map (·.withLink l) := by
  simp only [ejectDrive, drive_withLink, enterDraining_withLink]
  split
  · exact congrArg some (ite_withLink rfl (ite_withLink rfl rfl))
  · exact congrArg some (ite_withLink rfl (ite_withLink rfl rfl))
  · exact congrArg some (ite_withLink rfl rfl)
  · rfl

/-! ## The transmitter and the Power Controller -/

@[simp] theorem arbitrate_withLink : arbitrate c (s.withLink l) = (arbitrate c s).withLink l :=
  ite_withLink rfl rfl

@[simp] theorem installKeys_withLink (k : KeyNo) (n : Nat) (string : List Byte) :
    installKeys c k n string (s.withLink l) = (installKeys c k n string s).withLink l := by
  simp [installKeys]

@[simp] theorem emptySlot_withLink : emptySlot c (s.withLink l) = (emptySlot c s).withLink l := by
  simp [emptySlot]

@[simp] theorem requestBreak_withLink (o : Origin) (n : Nat) :
    requestBreak c o n (s.withLink l) = (requestBreak c o n s).withLink l := by
  simp [requestBreak]

@[simp] theorem relearn_withLink : relearn c (s.withLink l) = (relearn c s).withLink l := by
  rw [relearn_eq_relearned, relearn_eq_relearned]
  rfl

@[simp] theorem cutShort_withLink (line : Line) (which : Origin → Bool) :
    cutShort c line which (s.withLink l) = (cutShort c line which s).withLink l := by
  simp only [cutShort, chan_withLink]
  split
  · rfl
  · exact ite_withLink rfl rfl

/-- Leaving ON by a cut, which tells no run of anything (R4; log 12). -/
theorem leaveOn_withLink (cause : OffCause) :
    leaveOn id c cause (s.withLink l) = (leaveOn id c cause s).withLink l := by
  have hflush (t : State) : flushQueue c (t.withLink l) = (flushQueue c t).withLink l := ite_withLink rfl rfl
  have hbreak (t : State) : gateBreak id c (t.withLink l) = (gateBreak id c t).withLink l := by
    simp only [gateBreak, chan_withLink]
    split
    · rfl
    · exact ite_withLink rfl rfl
  simp [leaveOn, closeWatchGate, closeTxGate, hflush, hbreak]

@[simp] theorem cutPower_withLink : cutPower c (s.withLink l) = (cutPower c s).withLink l := by
  simp only [cutPower, chan_withLink]
  split
  · rfl
  · exact leaveOn_withLink (releasePen c s) l c .cut
  · rfl
  · rfl

@[simp] theorem supplyPower_withLink : supplyPower c (s.withLink l) = (supplyPower c s).withLink l := by
  simp only [supplyPower, chan_withLink]
  split <;> rfl

/-! ## The Recipe Engine -/

theorem endRun_withLink (x : RunResult) : endRun c x (s.withLink l) = (endRun c x s).withLink l := by
  simp [endRun]

theorem act_withLink (r : Run) (x : RecipeStep) : act c r (s.withLink l) x = relinked l (act c r s x) := by
  cases x with
  | pressButton n => exact ite_relinked rfl rfl
  | pulseReset n => exact ite_relinked rfl rfl
  | cutPower => simp [act, relinked]
  | supplyPower => simp [act, relinked]
  | waitPower on t => exact ite_relinked rfl rfl
  | waitMatch u t => exact ite_relinked rfl (ite_relinked rfl rfl)
  | armMatch u => exact ite_relinked rfl rfl
  | sendKeys k i =>
    simp only [act, sendKeysStep, installKeys_withLink]
    exact ite_relinked rfl rfl
  | stopKeys => simp [act, relinked]
  | relearnBaud => simp [act, relinked]
  | sendBreak n =>
    simp only [act, sendBreakStep, requestBreak_withLink]
    exact ite_relinked rfl rfl
  | insertMedia d =>
    have hrefusal : insertRefusal d c (s.withLink l) = insertRefusal d c s := rfl
    simp only [act, insertStep, hrefusal, insertDrive_withLink]
    refine ite_relinked rfl ?_
    split <;> rfl
  | ejectMedia d force =>
    simp only [act, ejectStep, ejectDrive_withLink]
    refine ite_relinked ?_ rfl
    cases ejectDrive d force .recipe s <;> rfl
  | waitActivity n t => rfl
  | waitQuiet q t => rfl
  | waitHeartbeat t => rfl
  | delay n => rfl
  | branch o t => rfl
  | call k => rfl
  | ret pass => rfl
  | finish code => rfl

theorem takeStep_withLink (r : Run) : takeStep c r (s.withLink l) = relinked l (takeStep c r s) := by
  simp only [takeStep, recipe_withLink]
  split
  · rfl
  · exact act_withLink s l c r _

variable {s l c} in
theorem settle_relinked {r : Run} {next : Run → State → State} (x : State × Taken)
    (h : ∀ r t, next r (t.withLink l) = (next r t).withLink l) :
    settle c r next (relinked l x) = (settle c r next x).withLink l := by
  obtain ⟨t, taken⟩ := x
  cases taken with
  | done o => exact h _ t
  | waits w n => rfl
  | moves r' => exact h r' t
  | ends result => exact endRun_withLink t l c result

theorem runSteps_withLink (n : Nat) (r : Run) :
    runSteps c n r (s.withLink l) = (runSteps c n r s).withLink l := by
  induction n generalizing s r with
  | zero =>
    rw [runSteps, takeStep_withLink]
    exact settle_relinked _ fun _ t => endRun_withLink t l c .loop
  | succ n ih =>
    rw [runSteps, takeStep_withLink]
    exact settle_relinked _ fun _ t => ih t _

theorem finishWait_withLink (o : StepOutcome) :
    finishWait c o (s.withLink l) = (finishWait c o s).withLink l := by
  simp only [finishWait, run_withLink]
  split
  · rfl
  · exact runSteps_withLink (setRun c _ s) l c _ _

/-- A run told of an event goes on the same whatever the link holds. -/
theorem tellRun_withLink (e : RunEvent) : tellRun c e (s.withLink l) = (tellRun c e s).withLink l := by
  have hfinish (o : StepOutcome) := finishWait_withLink s l c o
  unfold tellRun
  rw [run_withLink]
  split
  · rfl
  · split
    · exact ite_withLink (hfinish .met) rfl
    · exact ite_withLink (hfinish .met) rfl
    · exact hfinish .met
    · exact hfinish .met
    · exact ite_withLink (finishWait_withLink (consumeHit c _ s) l c .met) rfl
    · exact ite_withLink (hfinish .failed) rfl
    · exact ite_withLink (hfinish .met) rfl
    · rfl
    · exact ite_withLink (hfinish .met) rfl
    · rfl

end OtherLink

end Sys2Proof.Machine

/-! # Set Pattern, Arm Match and Disarm Match (R83 to R85) -/

namespace Sys2Proof.Machine

section Patterns

variable {s : State} {c : Channel} {u : UnitNo} {ch unit : Byte}

/-! ## A request that names a channel and a unit -/

theorem onUnit_some {h : Channel → UnitNo → Handler} (hc : ident? 8 ch = some c) (hu : ident? 4 unit = some u) :
    onUnit ch unit h s = h c u s := by
  rw [onUnit, onChannel_some hc, hu]

theorem onUnit_noUnit {h : Channel → UnitNo → Handler} (hc : ident? 8 ch = some c) (hu : ident? 4 unit = none) :
    onUnit ch unit h s = (s, ⟨.badValue, []⟩) := by
  rw [onUnit, onChannel_some hc, hu, answers]

theorem onUnit_noChannel {h : Channel → UnitNo → Handler} (hc : ident? 8 ch = none) :
    onUnit ch unit h s = (s, ⟨.badValue, []⟩) := onChannel_none hc

/-! ## One unit replaced -/

/-- The state with one unit of a channel replaced. -/
def State.putUnitRecord (s : State) (c : Channel) (u : UnitNo) (v : MatchUnit) : State :=
  s.putChan c { s.chan c with units := (s.chan c).units.set u v }

theorem modUnit_eq_putUnitRecord (f : MatchUnit → MatchUnit) :
    modUnit c u f s = s.putUnitRecord c u (f (s.unit c u)) := rfl

theorem unit_putUnitRecord (v : MatchUnit) : (s.putUnitRecord c u v).unit c u = v := by
  simp [State.putUnitRecord, State.unit]

/-! ## Set Pattern (R83) -/

/-- The state after a Set Pattern: the unit set, and the run told where it has become UNSET. -/
def State.patternSet (s : State) (c : Channel) (u : UnitNo) (fold counting : Bool) (pattern : List Byte) : State :=
  let t := s.putUnitRecord c u (MatchUnit.setTo pattern fold counting)
  if pattern.isEmpty then tellRun c (.unset u) t else t

variable {fold mode : Byte} {on counting : Bool} {pattern : List Byte}

theorem patternSet_withLink (l : Link) :
    (s.withLink l).patternSet c u on counting pattern = (s.patternSet c u on counting pattern).withLink l :=
  ite_withLink (tellRun_withLink (s.putUnitRecord c u _) l c (.unset u)) rfl

theorem hostSetPattern_onUnit (hc : ident? 8 ch = some c) (hu : ident? 4 unit = some u) :
    hostSetPattern ch unit fold mode pattern s =
      onFlag fold (fun on => onFlag mode fun counting s =>
        let t := s.patternSet c u on counting pattern
        (t, ⟨.ok, put1 (min 16 pattern.length) ++ put1 (t.unit c u).state.code⟩)) s := by
  rw [hostSetPattern, onUnit_some hc hu, List.length_take]
  rfl

/-- Set Pattern as a request: the range checks, then the unit set; the run that is told goes on from the state with the
request's bytes already shifted in, which makes no difference to it. -/
theorem takeRequest_hostSetPattern {i : Instr} {r : RequestFrame} (hi : i.request? = some r) (hr : s.ready = true)
    (hfit : fitsFrame r.body.length = true) :
    takeRequest i (hostSetPattern ch unit fold mode pattern) s =
      match ident? 8 ch, ident? 4 unit, flag? fold, flag? mode with
      | some c, some u, some on, some counting =>
        let t := s.patternSet c u on counting pattern
        s.answered i t .ok (put1 (min 16 pattern.length) ++ put1 (t.unit c u).state.code)
      | _, _, _, _ => s.answered i s .badValue [] := by
  have answered {t : State} {st : Status} {body : List Byte} :=
    takeRequest_answered (h := hostSetPattern ch unit fold mode pattern) (t := t) (st := st) (body := body) hi hr hfit
  cases hc : ident? 8 ch with
  | none => exact answered (onUnit_noChannel hc)
  | some c =>
    cases hu : ident? 4 unit with
    | none => exact answered (onUnit_noUnit hc hu)
    | some u =>
      cases hf : flag? fold with
      | none => exact answered ((hostSetPattern_onUnit hc hu).trans (onFlag_none hf))
      | some on =>
        cases hm : flag? mode with
        | none =>
          refine answered ((hostSetPattern_onUnit hc hu).trans ?_)
          rw [onFlag_some hf, onFlag_none hm]
          rfl
        | some counting =>
          refine answered (t := s.patternSet c u on counting pattern) ((hostSetPattern_onUnit hc hu).trans ?_)
          have hshift : shiftOut (List.replicate (6 + r.body.length) 0) s =
            s.withLink (shiftOut (List.replicate (6 + r.body.length) 0) s).link := rfl
          rw [onFlag_some hf, onFlag_some hm, hshift, patternSet_withLink]
          rfl

/-! ## Arm Match and Disarm Match (R84, R85) -/

/-- The one rule of both requests, which differ in what they make of the unit: an UNSET unit is refused, and the reply
gives the state the unit has after. -/
def hostChangeUnit (f : MatchUnit → MatchUnit) (ch unit : Byte) : Handler := onUnit ch unit fun c u s =>
  if (s.unit c u).state = .unset then answers .wrongState [] s
  else done (modUnit c u f s) ((modUnit c u f s).putUnit c u)

theorem hostArmMatch_eq : hostArmMatch ch unit = hostChangeUnit MatchUnit.arm ch unit := rfl

theorem hostDisarmMatch_eq : hostDisarmMatch ch unit = hostChangeUnit MatchUnit.disarm ch unit := rfl

theorem hostChangeUnit_unset {f : MatchUnit → MatchUnit} (hc : ident? 8 ch = some c) (hu : ident? 4 unit = some u)
    (hset : (s.unit c u).state = .unset) : hostChangeUnit f ch unit s = (s, ⟨.wrongState, []⟩) := by
  rw [hostChangeUnit, onUnit_some hc hu]
  exact if_pos hset

theorem hostChangeUnit_set {f : MatchUnit → MatchUnit} (hc : ident? 8 ch = some c) (hu : ident? 4 unit = some u)
    (hset : (s.unit c u).state ≠ .unset) : hostChangeUnit f ch unit s =
      (s.putUnitRecord c u (f (s.unit c u)), ⟨.ok, put1 (f (s.unit c u)).state.code⟩) := by
  rw [hostChangeUnit, onUnit_some hc hu, if_neg hset, State.putUnit, modUnit_eq_putUnitRecord, unit_putUnitRecord,
    done]

/-- A request that changes a unit's state: the range checks, then UNSET, then the unit replaced. -/
theorem takeRequest_hostChangeUnit {f : MatchUnit → MatchUnit} {i : Instr} {r : RequestFrame}
    (hi : i.request? = some r) (hr : s.ready = true) (hfit : fitsFrame r.body.length = true) :
    takeRequest i (hostChangeUnit f ch unit) s =
      match ident? 8 ch, ident? 4 unit with
      | some c, some u =>
        if (s.unit c u).state = .unset then s.answered i s .wrongState []
        else s.answered i (s.putUnitRecord c u (f (s.unit c u))) .ok (put1 (f (s.unit c u)).state.code)
      | _, _ => s.answered i s .badValue [] := by
  have answered {t : State} {st : Status} {body : List Byte} :=
    takeRequest_answered (h := hostChangeUnit f ch unit) (t := t) (st := st) (body := body) hi hr hfit
  cases hc : ident? 8 ch with
  | none => exact answered (onUnit_noChannel hc)
  | some c =>
    cases hu : ident? 4 unit with
    | none => exact answered (onUnit_noUnit hc hu)
    | some u =>
      dsimp only
      split
      next hset => exact answered (hostChangeUnit_unset hc hu hset)
      next hset =>
        exact answered (t := s.putUnitRecord c u (f (s.unit c u))) (hostChangeUnit_set hc hu hset)

end Patterns

/-- Settles O27: each request's checks in order, then one unit replaced; what a Set Pattern with no bytes tells the run
does not depend on the link that is shifting the request in. -/
theorem patternsAreSetArmedAndDisarmed : Obligations.PatternsAreSetArmedAndDisarmed := by
  refine ⟨fun s tag ch unit fold mode pattern hr hlen => congrArg Host.Outcome.next ?_,
    fun s tag ch unit hr => congrArg Host.Outcome.next ?_, fun s c r u => rfl,
    fun s tag ch unit hr => congrArg Host.Outcome.next ?_⟩
  · have hfit : fitsFrame (ch :: unit :: fold :: mode :: pattern).length = true := by
      simp only [fitsFrame, List.length_cons, decide_eq_true_eq]
      omega
    cases pattern with
    | nil => exact takeRequest_hostSetPattern rfl hr hfit
    | cons b pattern => exact takeRequest_hostSetPattern rfl hr hfit
  · exact takeRequest_hostChangeUnit (f := MatchUnit.arm) rfl hr rfl
  · exact takeRequest_hostChangeUnit (f := MatchUnit.disarm) rfl hr rfl

end Sys2Proof.Machine

/-! # Transactions that carry no request (R175, R176, R179) -/

namespace Sys2Proof.Machine

section LinkReads

variable {s : State} {n : Nat}

/-- The status byte's four bits, the second as R176 words it: the queue is not empty. -/
theorem statusByte_eq_bits : s.statusByte =
    (if decide (s.link.replies.length < 8) then 1 else 0) + (if decide (s.link.replies ≠ []) then 2 else 0) +
      (if s.attn then 4 else 0) + (if s.link.reject then 8 else 0) := by
  have hreply : (if s.link.replies.isEmpty then (0 : Byte) else 2) =
      if decide (s.link.replies ≠ []) then 2 else 0 := by
    cases s.link.replies with
    | nil => rfl
    | cons r rest => simp
  rw [State.statusByte, hreply]
  rfl

/-- The link after a transaction whose status byte and then `rest` were shifted out, with the replies `left`. -/
def State.shifted (s : State) (rest : List Byte) (left : List Reply) : Link :=
  { s.link with replies := left, reject := false, shiftedOut := s.statusByte :: rest }

theorem shiftOut_eq_withLink (rest : List Byte) : shiftOut rest s = s.withLink (s.shifted rest s.link.replies) := rfl

/-! ## Reply reads -/

/-- The bytes of the reply that a reply read shifts out: the oldest, or the one that stands for an empty queue. -/
def State.oldestFrame (s : State) : List Byte :=
  match s.link.replies with
  | [] => Reply.ofEmptyQueue.bytes
  | r :: _ => r.bytes

theorem oldestFrame_nil (h : s.link.replies = []) : s.oldestFrame = Reply.ofEmptyQueue.bytes := by
  rw [State.oldestFrame, h]

theorem oldestFrame_cons {r : Reply} {rest : List Reply} (h : s.link.replies = r :: rest) :
    s.oldestFrame = r.bytes := by
  rw [State.oldestFrame, h]

theorem readReply_nil (h : s.link.replies = []) :
    readReply n s = s.withLink (s.shifted (clockedOut n Reply.ofEmptyQueue.bytes) []) := by
  rw [readReply, h, shiftOut_eq_withLink, h]

theorem readReply_cons {r : Reply} {rest : List Reply} (h : s.link.replies = r :: rest) :
    readReply n s =
      s.withLink (s.shifted (clockedOut n r.bytes) (if r.bytes.length ≤ n then rest else r :: rest)) := by
  rw [readReply, h]
  dsimp only
  split
  · rfl
  · rw [shiftOut_eq_withLink, h]

/-- A reply read, by one equation: the empty queue has no reply to remove, so removing its first leaves it empty. -/
theorem readReply_eq : readReply n s = s.withLink (s.shifted (clockedOut n s.oldestFrame)
    (if s.oldestFrame.length ≤ n then s.link.replies.drop 1 else s.link.replies)) := by
  cases h : s.link.replies with
  | nil => rw [readReply_nil h, oldestFrame_nil h, List.drop_nil, ite_self]
  | cons r rest => rw [readReply_cons h, oldestFrame_cons h, List.drop_one, List.tail_cons]

/-! ## Other transactions -/

theorem execLinkOtherTransaction_other {b : Byte} (hwrite : b ≠ 0x5A) (hread : b ≠ 0xA5) :
    execLinkOtherTransaction (some b) n s =
      .next (s.withLink (s.shifted (List.replicate n 0) s.link.replies)) := by
  simp only [execLinkOtherTransaction, if_neg hwrite, if_neg hread]
  rfl

end LinkReads

/-- Settles O50: the equation of a reply read and those of the other transactions, with the status byte by its bits. -/
theorem repliesAreReadOldestFirst : Obligations.RepliesAreReadOldestFirst := by
  intro s n bit status out frame left
  have hout (rest : List Byte) (replies : List Reply) : s.withLink (s.shifted rest replies) = out rest replies := by
    have hstatus : s.statusByte = status := statusByte_eq_bits
    simp only [State.shifted, hstatus, out]
  refine ⟨?_, rfl, fun b hwrite hread => ?_⟩
  · exact congrArg Host.Outcome.next (readReply_eq.trans (hout (clockedOut n frame) left))
  · exact (execLinkOtherTransaction_other hwrite hread).trans (congrArg Host.Outcome.next (hout _ _))

end Sys2Proof.Machine

/-! # A step, and an empty queue -/

namespace Sys2Proof.Machine

/-- Settles O1: the step function's second branch, read at the queue found. -/
theorem stepRunsTheFrontCommand : Obligations.StepRunsTheFrontCommand := by
  intro s i rest hqueue
  rw [step, hqueue]

/-- Settles O2: the step function's first branch; the millisecond is 256,000 quarter ticks. -/
theorem anEmptyQueueWaits : Obligations.AnEmptyQueueWaits := by
  intro s hqueue
  unfold step
  split
  · rfl
  next hfront => exact absurd (hqueue.symm.trans hfront) (List.cons_ne_nil _ _).symm

end Sys2Proof.Machine

/-! # The cache law by homes: each page in the one list of its cache state (R88, R89, R129, R137, R138) -/

namespace Sys2Proof.Machine

/-! ## Homes -/

/-- The four lists that a cache page can stand in. -/
inductive Home where
  | clean
  | dirty
  | spilling
  | filling

/-- The list that the law asks for a page of a cache state. -/
def CacheState.home : CacheState → Home
  | .filling => .filling
  | .clean => .clean
  | .dirty => .dirty
  | .spilling => .spilling
  | .spillingDirty => .spilling

/-- The pages that a list of the state names. -/
def State.listed (s : State) : Home → List PageRef
  | .clean => s.cleanList
  | .dirty => s.spillQueue
  | .spilling => s.spills.map fun x => ⟨x.drive, x.page⟩
  | .filling => s.wants.map fun w => ⟨w.drive, w.page⟩

/-- The home of a page of a map; none where the page is absent. -/
def mapHome (i : Nat) (m : List CachePage) : Option Home := (mapFind i m).map fun p => p.state.home

/-- The home of a page of a drive. -/
def State.homeOf (s : State) (r : PageRef) : Option Home := mapHome r.index (s.drive r.drive).map

/-- Every page that is not FILLING holds 4096 bytes (R88). -/
def State.PagesWhole (s : State) : Prop :=
  ∀ d, ∀ p ∈ (s.drive d).map, p.state ≠ .filling → p.data.length = 4096

section Law

variable {s t : State}

theorem homeOf_eq_iff {d : DriveNo} {i : Nat} {h : Home} :
    s.homeOf ⟨d, i⟩ = some h ↔ ∃ p, s.page d i = some p ∧ p.state.home = h := by
  simp [State.homeOf, mapHome, State.page]

/-- The law of R88, R89, R129, R137 and R138, one clause for all four lists. -/
theorem cacheLaw_iff : s.CacheLaw ↔
    s.MapsOrdered ∧ (∀ h, (s.listed h).Nodup ∧ ∀ r, r ∈ s.listed h ↔ s.homeOf r = some h) ∧ s.PagesWhole := by
  have nodup_refs {α : Type} (l : List α) (d : α → DriveNo) (i : α → Nat) :
      (l.map fun x => (d x, i x)).Nodup ↔ (l.map fun x => (⟨d x, i x⟩ : PageRef)).Nodup := by
    have hinj : Function.Injective fun r : PageRef => (r.drive, r.index) := by
      rintro ⟨a, b⟩ ⟨a', b'⟩ h
      simpa using h
    rw [← List.nodup_map_iff hinj, List.map_map]
    rfl
  have mem_refs {α : Type} (l : List α) (d : α → DriveNo) (i : α → Nat) (r : PageRef) :
      r ∈ l.map (fun x => (⟨d x, i x⟩ : PageRef)) ↔ ∃ x ∈ l, d x = r.drive ∧ i x = r.index := by
    obtain ⟨a, b⟩ := r
    simp
  have states (d : DriveNo) (i : Nat) (st : CacheState) (h : Home) (hst : ∀ v : CacheState, v.home = h ↔ v = st) :
      (s.page d i).map (·.state) = some st ↔ s.homeOf ⟨d, i⟩ = some h := by
    simp [homeOf_eq_iff, hst]
  have clean (v : CacheState) : v.home = .clean ↔ v = .clean := by cases v <;> simp [CacheState.home]
  have dirty (v : CacheState) : v.home = .dirty ↔ v = .dirty := by cases v <;> simp [CacheState.home]
  have filling (v : CacheState) : v.home = .filling ↔ v = .filling := by cases v <;> simp [CacheState.home]
  have spilling (d : DriveNo) (i : Nat) : ((s.page d i).map (·.state) = some .spilling ∨
      (s.page d i).map (·.state) = some .spillingDirty) ↔ s.homeOf ⟨d, i⟩ = some .spilling := by
    have h (v : CacheState) : v.home = .spilling ↔ v = .spilling ∨ v = .spillingDirty := by
      cases v <;> simp [CacheState.home]
    rw [homeOf_eq_iff]
    simp only [h, Option.map_eq_some_iff]
    grind
  simp only [State.CacheLaw, states _ _ _ _ clean, states _ _ _ _ dirty, states _ _ _ _ filling, spilling]
  rw [nodup_refs, nodup_refs]
  constructor
  · rintro ⟨hmaps, hc, hd, hsp, hf, mc, md, msp, mf, hwhole⟩
    refine ⟨hmaps, fun h => ?_, hwhole⟩
    cases h with
    | clean => exact ⟨hc, fun r => mc _ _⟩
    | dirty => exact ⟨hd, fun r => md _ _⟩
    | spilling => exact ⟨hsp, fun r => (mem_refs s.spills _ _ r).trans (msp r.drive r.index)⟩
    | filling => exact ⟨hf, fun r => (mem_refs s.wants _ _ r).trans (mf r.drive r.index)⟩
  · rintro ⟨hmaps, hlists, hwhole⟩
    refine ⟨hmaps, (hlists .clean).1, (hlists .dirty).1, (hlists .spilling).1, (hlists .filling).1,
      fun d i => (hlists .clean).2 ⟨d, i⟩, fun d i => (hlists .dirty).2 ⟨d, i⟩, fun d i => ?_, fun d i => ?_, hwhole⟩
    · exact (mem_refs s.spills _ _ ⟨d, i⟩).symm.trans ((hlists .spilling).2 ⟨d, i⟩)
    · exact (mem_refs s.wants _ _ ⟨d, i⟩).symm.trans ((hlists .filling).2 ⟨d, i⟩)

end Law

/-! ## One page moved from home to home -/

/-- From `l` to `l'` a list changed in one page only, which it names at most once, and exactly where `p` holds. -/
structure Relisted (r : PageRef) (p : Prop) (l l' : List PageRef) : Prop where
  nodup : l'.Nodup
  self : r ∈ l' ↔ p
  other : ∀ x, x ≠ r → (x ∈ l' ↔ x ∈ l)

namespace Relisted

variable {r : PageRef} {p : Prop} {l : List PageRef}

theorem same (hl : l.Nodup) (hr : r ∈ l ↔ p) : Relisted r p l l := ⟨hl, hr, fun _ _ => Iff.rfl⟩

theorem filter (hl : l.Nodup) (hp : ¬ p) : Relisted r p l (l.filter fun x => x ≠ r) :=
  ⟨hl.filter _, by simp [hp], fun x hx => by simp [hx]⟩

theorem append (hl : l.Nodup) (hr : r ∉ l) (hp : p) : Relisted r p l (l ++ [r]) :=
  ⟨List.nodup_append.2 ⟨hl, List.nodup_singleton r, by rintro a ha b hb rfl; simp at hb; exact hr (hb ▸ ha)⟩,
    by simp [hp], fun x hx => by simp [hx]⟩

theorem cons (hl : l.Nodup) (hr : r ∉ l) (hp : p) : Relisted r p l (r :: l) :=
  ⟨List.nodup_cons.2 ⟨hr, hl⟩, by simp [hp], fun x hx => by simp [hx]⟩

theorem tail (hl : (r :: l).Nodup) (hp : ¬ p) : Relisted r p (r :: l) l :=
  ⟨(List.nodup_cons.1 hl).2, by simp [hp, (List.nodup_cons.1 hl).1], fun x hx => by simp [hx]⟩

/-- A page moved to the newest end, whether or not it stood in the list before. -/
theorem refreshed (hl : l.Nodup) (hp : p) : Relisted r p l ((l.filter fun x => x ≠ r) ++ [r]) :=
  ⟨(append (hl.filter _) (by simp) hp).nodup, by simp [hp], fun x hx => by simp [hx]⟩

end Relisted

theorem cacheLaw_of_relisted {s t : State} {d : DriveNo} {i : Nat} {m : List CachePage} (hs : s.CacheLaw)
    (hdrives : ∀ e, (t.drive e).map = if e = d then m else (s.drive e).map) (hm : mapWf m = true)
    (hother : ∀ j, j ≠ i → mapHome j m = mapHome j (s.drive d).map)
    (hwhole : ∀ p ∈ m, p.state ≠ .filling → p.data.length = 4096)
    (hlists : ∀ h, Relisted ⟨d, i⟩ (mapHome i m = some h) (s.listed h) (t.listed h)) : t.CacheLaw := by
  obtain ⟨hmaps, hlisted, hpages⟩ := cacheLaw_iff.1 hs
  have hhome (r : PageRef) (hr : r ≠ ⟨d, i⟩) : t.homeOf r = s.homeOf r := by
    obtain ⟨e, j⟩ := r
    simp only [State.homeOf, hdrives]
    split
    next he =>
      subst he
      exact hother j fun hj => hr (by rw [hj])
    · rfl
  refine cacheLaw_iff.2 ⟨fun e => ?_, fun h => ⟨(hlists h).nodup, fun r => ?_⟩, fun e => ?_⟩
  · rw [hdrives]
    split
    · exact hm
    · exact hmaps e
  · by_cases hr : r = ⟨d, i⟩
    · subst hr
      rw [(hlists h).self, State.homeOf, hdrives, if_pos rfl]
    · rw [(hlists h).other r hr, (hlisted h).2, hhome r hr]
  · rw [hdrives]
    split
    · exact hwhole
    · exact hpages e

/-! ## Counting the pages of a map -/

/-- A page put is counted in the place of the one it replaces. -/
theorem countP_mapPut (f : CachePage → Bool) (p : CachePage) :
    ∀ m : List CachePage, mapWf m = true →
      (mapPut p m).countP f + (mapFind p.index m).elim 0 (fun q => (f q).toNat) = m.countP f + (f p).toNat
  | [], _ => by simp [mapPut, mapFind, List.countP_cons, Bool.toNat, Bool.cond_eq_ite]
  | q :: rest, hw => by
    obtain ⟨hlt, hr⟩ := mapWf_cons.1 hw
    unfold mapPut
    split
    next h =>
      have hnone : mapFind p.index (q :: rest) = none :=
        mapFind_none_of_lt fun x hx => by
          rcases List.mem_cons.1 hx with rfl | hx
          · exact h
          · exact Nat.lt_trans h (hlt x hx)
      simp [hnone, List.countP_cons, Bool.toNat, Bool.cond_eq_ite]
    next h =>
      split
      next heq =>
        simp only [mapFind, heq, if_true, List.countP_cons, Bool.toNat, Bool.cond_eq_ite, Option.elim]
        omega
      next hne =>
        have ih := countP_mapPut f p rest hr
        simp only [mapFind, Ne.symm hne, if_false, List.countP_cons]
        omega

theorem countP_mapErase (f : CachePage → Bool) (i : Nat) :
    ∀ m : List CachePage,
      (mapErase i m).countP f + (mapFind i m).elim 0 (fun q => (f q).toNat) = m.countP f
  | [] => by simp [mapErase, mapFind]
  | q :: rest => by
    have ih := countP_mapErase f i rest
    unfold mapErase mapFind
    split
    · simp [List.countP_cons, Bool.toNat, Bool.cond_eq_ite]
    · simp only [List.countP_cons]
      omega

/-- The page counts under the dirty limit (R136). -/
def CachePage.counts (p : CachePage) : Bool := p.state = .dirty || p.state = .spilling || p.state = .spillingDirty

theorem dirtyCount_eq (x : Drive) : x.dirtyCount = x.map.countP CachePage.counts := by
  unfold Drive.dirtyCount countState
  induction x.map with
  | nil => rfl
  | cons p rest ih =>
    simp only [List.countP_cons, ← ih, CachePage.counts, decide_eq_true_eq, Bool.or_eq_true]
    cases p.state <;> simp <;> omega

/-- A page counts exactly where its home is the Spill Queue or the spill table. -/
theorem counts_iff (p : CachePage) : p.counts = true ↔ p.state.home = .dirty ∨ p.state.home = .spilling := by
  cases h : p.state <;> simp [CachePage.counts, CacheState.home, h]

end Sys2Proof.Machine

/-! # What keeps the laws of the bounds, the stores, the runs, the cache and the pool -/

namespace Sys2Proof.Machine

/-! ## Sums over a table -/

theorem sum_map_set {α : Type} (f : α → Nat) (x : α) :
    ∀ (l : List α) (k : Nat) (hk : k < l.length),
      ((l.set k x).map f).sum + f l[k] = (l.map f).sum + f x
  | y :: rest, 0, _ => by simp; omega
  | y :: rest, k + 1, hk => by
    have ih := sum_map_set f x rest k (by simpa using hk)
    simp only [List.set_cons_succ, List.map_cons, List.sum_cons, List.getElem_cons_succ]
    omega

/-- One entry of a table replaced: the sum over the table changes by that entry's part. -/
theorem sum_table_set {n : Nat} {α : Type} (f : α → Nat) (t : Table n α) (k : Fin n) (x : α) :
    ((t.set k x).entries.map f).sum + f (t.get k) = (t.entries.map f).sum + f x :=
  sum_map_set f x t.entries k.val _

section Sums

variable (s : State) (c : Channel) (d : DriveNo)

theorem sumChannels_modChan (f : ChannelState → ChannelState) (g : ChannelState → Nat) :
    (modChan c f s).sumChannels g + g (s.chan c) = s.sumChannels g + g (f (s.chan c)) :=
  sum_table_set g s.channels c _

theorem cachePages_modDrive (f : Drive → Drive) :
    (modDrive d f s).cachePages + (s.drive d).map.length = s.cachePages + (f (s.drive d)).map.length :=
  sum_table_set (fun x => x.map.length) s.drives d _

theorem le_sumChannels (g : ChannelState → Nat) : g (s.chan c) ≤ s.sumChannels g :=
  List.le_sum_of_mem (List.mem_map_of_mem (List.getElem_mem _))

theorem le_cachePages : (s.drive d).map.length ≤ s.cachePages :=
  List.le_sum_of_mem (List.mem_map_of_mem (f := fun x : Drive => x.map.length) (List.getElem_mem _))

end Sums

/-! ## The laws carried from one state to the next -/

/-- A context is IDLE, or its run waits in a step with at most 4 return entries (R147). -/
def RunHolds (o : Option Run) : Prop := ∀ r ∈ o, r.wait.isSome = true ∧ r.stack.length ≤ 4

/-- The laws of the tables, the cache lists and the drives together. -/
def State.CacheLaws (s : State) : Prop := s.TablesFit ∧ s.CacheLaw ∧ s.DrivesLaw

/-- From `s` to `t` the link is untouched and the laws of the queues, the tables, the stores, the cache and the pool
carry over. -/
structure KeepsBounds (s t : State) : Prop where
  link : t.link = s.link
  consoles : s.ConsolesFit → t.ConsolesFit
  tables : s.TablesFit → t.TablesFit
  stores : s.StoresLaw → t.StoresLaw
  cache : s.CacheLaws → t.CacheLaws
  pool : s.CacheLaws → s.StoresLaw → s.PoolLaw → t.PoolLaw

/-- From `s` to `t` those laws carry over, and so does that of the runs, with no transmitter newly in the middle of an
end. -/
structure Keeps (s t : State) : Prop extends KeepsBounds s t where
  runs : ∀ c, RunHolds (s.run c) → RunHolds (t.run c)
  settled : ∀ c, (t.chan c).tx.settling = true → (s.chan c).tx.settling = true

theorem KeepsBounds.trans {s t u : State} (h : KeepsBounds s t) (h' : KeepsBounds t u) : KeepsBounds s u where
  link := h'.link.trans h.link
  consoles := h'.consoles ∘ h.consoles
  tables := h'.tables ∘ h.tables
  stores := h'.stores ∘ h.stores
  cache := h'.cache ∘ h.cache
  pool hc hs hp := h'.pool (h.cache hc) (h.stores hs) (h.pool hc hs hp)

/-- From the record `x` of a channel to `y` the laws of the store and of the queue carry over, and the store's pages and
limits stand. -/
structure ChannelState.FollowsBounds (x y : ChannelState) : Prop where
  pages : x.store.Law → y.store.pages.length = x.store.pages.length
  floor : y.store.floor = x.store.floor
  store : x.store.Law → y.store.Law
  markers : x.store.markers.length ≤ 64 → y.store.markers.length ≤ 64
  queue : x.tx.queue.length ≤ 512 → y.tx.queue.length ≤ 512

/-- From the record `x` of a channel to `y` all laws of a channel carry over. -/
structure ChannelState.Follows (x y : ChannelState) : Prop extends x.FollowsBounds y where
  run : RunHolds x.context.run → RunHolds y.context.run
  settling : y.tx.settling = true → x.tx.settling = true

theorem ChannelState.FollowsBounds.plain {x y : ChannelState} (hstore : y.store = x.store)
    (hqueue : y.tx.queue = x.tx.queue) : x.FollowsBounds y where
  pages _ := by rw [hstore]
  floor := by rw [hstore]
  store := by rw [hstore]; exact id
  markers := by rw [hstore]; exact id
  queue := by rw [hqueue]; exact id

/-- A record whose store, queue, mark of an end and run are as they were. -/
theorem ChannelState.Follows.plain {x y : ChannelState} (hstore : y.store = x.store)
    (hqueue : y.tx.queue = x.tx.queue) (hsettling : y.tx.settling = x.tx.settling)
    (hrun : y.context.run = x.context.run) : x.Follows y :=
  ⟨.plain hstore hqueue, by rw [hrun]; exact id, by rw [hsettling]; exact id⟩

namespace Keeps

variable {s t u : State} {c : Channel}

theorem refl (s : State) : Keeps s s := ⟨⟨rfl, id, id, id, id, fun _ _ => id⟩, fun _ => id, fun _ => id⟩

theorem trans (h : Keeps s t) (h' : Keeps t u) : Keeps s u :=
  ⟨h.toKeepsBounds.trans h'.toKeepsBounds, fun c => h'.runs c ∘ h.runs c, fun c => h.settled c ∘ h'.settled c⟩

/-- What the laws of the cache read of a drive is as it was. -/
def SameDrive (x y : Drive) : Prop :=
  y.map = x.map ∧ y.descriptor = x.descriptor ∧ y.state = x.state ∧ y.bound = x.bound

/-- What the laws read of a want. -/
def wantKey (w : Want) : Byte × DriveNo × Nat × Nat := (w.number, w.drive, w.page, w.valid)

theorem listed_filling_of_keys (hw : t.wants.map wantKey = s.wants.map wantKey) :
    t.listed .filling = s.listed .filling := by
  have h := congrArg (List.map fun k => (⟨k.2.1, k.2.2.1⟩ : PageRef)) hw
  simpa [State.listed, wantKey, Function.comp_def] using h

theorem tablesFit_of_keys (hw : t.wants.map wantKey = s.wants.map wantKey) (hp : t.spills = s.spills)
    (h : s.TablesFit) : t.TablesFit := by
  obtain ⟨hlen, hspills, hnodup, hspillNodup⟩ := h
  have hnumbers := congrArg (List.map Prod.fst) hw
  simp only [List.map_map] at hnumbers
  have hlength := congrArg List.length hw
  simp only [List.length_map] at hlength
  refine ⟨hlength ▸ hlen, hp ▸ hspills, ?_, hp ▸ hspillNodup⟩
  rw [show t.wants.map (·.number) = s.wants.map (·.number) from hnumbers]
  exact hnodup

/-- The laws of the cache, where no list, map, want or drive state has changed. -/
theorem cacheLaws_of_same (hd : ∀ d, SameDrive (s.drive d) (t.drive d)) (hclean : t.cleanList = s.cleanList)
    (hqueue : t.spillQueue = s.spillQueue) (hspills : t.spills = s.spills)
    (hwants : t.wants.map wantKey = s.wants.map wantKey) (h : s.CacheLaws) : t.CacheLaws := by
  obtain ⟨htables, hcache, hdrives⟩ := h
  have hlisted (h : Home) : t.listed h = s.listed h := by
    cases h with
    | clean => exact hclean
    | dirty => exact hqueue
    | spilling => simp only [State.listed, hspills]
    | filling => exact listed_filling_of_keys hwants
  have hmap (d : DriveNo) : (t.drive d).map = (s.drive d).map := (hd d).1
  have hhome (r : PageRef) : t.homeOf r = s.homeOf r := by rw [State.homeOf, hmap, State.homeOf]
  obtain ⟨hmaps, hlists, hwhole⟩ := cacheLaw_iff.1 hcache
  refine ⟨tablesFit_of_keys hwants hspills htables,
    cacheLaw_iff.2 ⟨fun d => hmap d ▸ hmaps d, fun h => ?_, fun d => hmap d ▸ hwhole d⟩, fun d => ?_⟩
  · simp only [hlisted, hhome]
    exact hlists h
  · obtain ⟨hm, hdesc, hstate, hbound⟩ := hd d
    obtain ⟨hempty, hlimit, hbind, hone, hbare, hidle, hnone, hvalid⟩ := hdrives d
    have hkey {w : Want} (hw : w ∈ t.wants) : ∃ v ∈ s.wants, wantKey v = wantKey w := by
      have : wantKey w ∈ s.wants.map wantKey := hwants ▸ List.mem_map_of_mem hw
      simpa using this
    simp only [dirtyCount_eq, State.descriptor, hm, hdesc, hstate, hbound, hspills]
    refine ⟨hempty, by simpa only [dirtyCount_eq] using hlimit, hbind, fun e c hc he => ?_, hbare, hidle,
      fun hst => ⟨fun w hw => ?_, (hnone hst).2⟩, fun w hw hwd => ?_⟩
    · exact hone e c hc ((hd e).2.2.2 ▸ he)
    · obtain ⟨v, hv, hk⟩ := hkey hw
      simp only [wantKey, Prod.mk.injEq] at hk
      exact hk.2.1 ▸ (hnone hst).1 v hv
    · obtain ⟨v, hv, hk⟩ := hkey hw
      simp only [wantKey, Prod.mk.injEq] at hk
      obtain ⟨-, hkd, hkp, hkv⟩ := hk
      rw [← hkv, ← hkp]
      exact hvalid v hv (hkd.trans hwd)

theorem consolePages_of_channels (h : t.channels = s.channels) : t.consolePages = s.consolePages := by
  simp only [State.consolePages, State.sumChannels, h]

theorem unmet_of_channels (h : t.channels = s.channels) : t.unmet = s.unmet := by
  simp only [State.unmet, State.sumChannels, h]

theorem cachePages_of_maps (h : ∀ d, (t.drive d).map = (s.drive d).map) : t.cachePages = s.cachePages := by
  have : t.drives.map (·.map) = s.drives.map (·.map) := by
    ext1 d
    rw [Table.get_map, Table.get_map]
    exact h d
  have hentries := congrArg (fun x : Table 4 (List CachePage) => (x.entries.map List.length).sum) this
  simpa [Table.map, State.cachePages, Function.comp_def] using hentries

/-- The law of the pool in its four counts. -/
theorem poolLaw_iff : s.PoolLaw ↔ s.consolePages + s.cachePages ≤ 512 ∧
    s.unmet ≤ 512 - (s.consolePages + s.cachePages) + s.cleanList.length := Iff.rfl

/-- The channels untouched: what is left to show is the laws of the tables, the cache and the pool. -/
theorem of_channels (hlink : t.link = s.link) (hch : t.channels = s.channels)
    (tables : s.TablesFit → t.TablesFit) (cache : s.CacheLaws → t.CacheLaws)
    (pool : s.CacheLaws → s.PoolLaw → t.PoolLaw) : Keeps s t := by
  have hchan : t.chan = s.chan := by
    funext c
    rw [State.chan, hch, State.chan]
  refine ⟨⟨hlink, ?_, tables, ?_, cache, fun hc _ => pool hc⟩, fun c => ?_, fun c => ?_⟩
  · simp only [State.ConsolesFit, hchan, imp_self]
  · simp only [State.StoresLaw, hchan, imp_self]
  · simp only [State.run, hchan, imp_self]
  · simp only [hchan, imp_self]

/-- Nothing changed that a law reads: the clock, waiting lists, waiters, counters, tables of recipes, the mask. -/
theorem quiet (hlink : t.link = s.link := by rfl) (hch : t.channels = s.channels := by rfl)
    (hd : ∀ d, SameDrive (s.drive d) (t.drive d) := by exact fun _ => ⟨rfl, rfl, rfl, rfl⟩)
    (hclean : t.cleanList = s.cleanList := by rfl) (hqueue : t.spillQueue = s.spillQueue := by rfl)
    (hspills : t.spills = s.spills := by rfl)
    (hwants : t.wants.map wantKey = s.wants.map wantKey := by rfl) : Keeps s t :=
  of_channels hlink hch (tablesFit_of_keys hwants hspills) (cacheLaws_of_same hd hclean hqueue hspills hwants)
    fun _ h => by
      rw [poolLaw_iff, consolePages_of_channels hch, unmet_of_channels hch, cachePages_of_maps fun d => (hd d).1,
        hclean]
      exact h

/-- A relation of records that is reflexive holds between each channel's before and after one of them changed. -/
theorem forall_chan_modChan {p : ChannelState → ChannelState → Prop} {f : ChannelState → ChannelState}
    (hp : p (s.chan c) (f (s.chan c))) (hrefl : ∀ x, p x x) (c' : Channel) :
    p (s.chan c') ((modChan c f s).chan c') := by
  by_cases hc : c' = c
  · subst hc
    rwa [chan_modChan]
  · rw [chan_modChan_ne s c f hc]
    exact hrefl _

/-- One channel's record changed as the laws of a store and of a queue allow. -/
theorem bounds_chan {f : ChannelState → ChannelState} (h : (s.chan c).FollowsBounds (f (s.chan c))) :
    KeepsBounds s (modChan c f s) := by
  have hconsole (hs : s.StoresLaw) : (modChan c f s).consolePages = s.consolePages := by
    have := sumChannels_modChan s c f fun x => x.store.pages.length
    rw [h.pages (hs c)] at this
    exact Nat.add_right_cancel this
  have hunmet (hs : s.StoresLaw) : (modChan c f s).unmet = s.unmet := by
    have := sumChannels_modChan s c f fun x => x.store.share
    simp only [Store.share, h.pages (hs c), h.floor] at this
    exact Nat.add_right_cancel this
  refine ⟨rfl, fun hs c' => ?_, id, fun hs c' => ?_, ?_, fun _ hs hp => ?_⟩
  · exact forall_chan_modChan (p := fun x y => x.store.markers.length ≤ 64 ∧ x.tx.queue.length ≤ 512 →
      y.store.markers.length ≤ 64 ∧ y.tx.queue.length ≤ 512) (And.imp h.markers h.queue) (fun _ => id) c' (hs c')
  · exact forall_chan_modChan (p := fun x y => x.store.Law → y.store.Law) h.store (fun _ => id) c' (hs c')
  · exact cacheLaws_of_same (fun _ => ⟨rfl, rfl, rfl, rfl⟩) rfl rfl rfl rfl
  · rw [poolLaw_iff, hconsole hs, hunmet hs]
    exact hp

/-- One channel's record changed as the laws of a channel allow. -/
theorem chan {f : ChannelState → ChannelState} (h : (s.chan c).Follows (f (s.chan c))) : Keeps s (modChan c f s) :=
  ⟨bounds_chan h.toFollowsBounds,
    forall_chan_modChan (p := fun x y => RunHolds x.context.run → RunHolds y.context.run) h.run fun _ => id,
    forall_chan_modChan (p := fun x y => y.tx.settling = true → x.tx.settling = true) h.settling fun _ => id⟩

/-- One channel's record changed in nothing that a law reads. -/
theorem plain {f : ChannelState → ChannelState} (hstore : (f (s.chan c)).store = (s.chan c).store := by rfl)
    (hqueue : (f (s.chan c)).tx.queue = (s.chan c).tx.queue := by rfl)
    (hsettling : (f (s.chan c)).tx.settling = (s.chan c).tx.settling := by rfl)
    (hrun : (f (s.chan c)).context.run = (s.chan c).context.run := by rfl) : Keeps s (modChan c f s) :=
  chan (.plain hstore hqueue hsettling hrun)

/-- What keeps the laws and then changes one channel in nothing that a law reads. -/
theorem thenPlain {f : ChannelState → ChannelState} (h : Keeps s t)
    (hstore : (f (t.chan c)).store = (t.chan c).store := by rfl)
    (hqueue : (f (t.chan c)).tx.queue = (t.chan c).tx.queue := by rfl)
    (hsettling : (f (t.chan c)).tx.settling = (t.chan c).tx.settling := by rfl)
    (hrun : (f (t.chan c)).context.run = (t.chan c).context.run := by rfl) : Keeps s (modChan c f t) :=
  h.trans (plain hstore hqueue hsettling hrun)

/-- A marker at next keeps a store's form: it is the last, and none stands beyond next (R51). -/
theorem store_law_pushMarker {st : Store} {m : Marker} (hm : m.position = st.next) (h : st.Law) :
    ({ st with markers := pushMarker m st.markers } : Store).Law := by
  obtain ⟨hlimits, halign, hnext, hend, hpages, -, hrange, hsorted⟩ := h
  have hsum : st.oldest ≤ st.next := by omega
  obtain ⟨l, hl, hsub⟩ : ∃ l, pushMarker m st.markers = l ++ [m] ∧ l.Sublist st.markers := by
    unfold pushMarker
    split
    · exact ⟨_, rfl, .refl _⟩
    · exact ⟨_, rfl, List.drop_sublist _ _⟩
  refine ⟨hlimits, halign, hnext, hend, hpages, pushMarker_length m _, ?_, ?_⟩
  · intro x hx
    rw [hl, List.mem_append, List.mem_singleton] at hx
    rcases hx with hx | rfl
    · exact hrange x (hsub.subset hx)
    · exact ⟨hm ▸ hsum, hm.le⟩
  · rw [hl, List.map_append, List.pairwise_append]
    refine ⟨hsorted.sublist (hsub.map _), List.pairwise_singleton _ _, ?_⟩
    rintro a ha b hb
    obtain ⟨x, hx, rfl⟩ := List.mem_map.1 ha
    obtain rfl : b = m.position := by simpa using hb
    exact hm ▸ (hrange x (hsub.subset hx)).2

theorem mark (k : MarkerKind) (a : Nat) : Keeps s (marker c k a s) := by
  rw [marker_eq]
  exact chan ⟨⟨fun _ => rfl, rfl, store_law_pushMarker rfl, fun _ => pushMarker_length _ _, id⟩, id, id⟩

theorem thenMark (h : Keeps s t) (k : MarkerKind) (a : Nat) : Keeps s (marker c k a t) := h.trans (mark k a)

/-- An end's steps between the setting and the clearing of its mark. -/
theorem settling {f : State → State} (h : ∀ s, Keeps s (f s)) :
    Keeps s (modTx c (fun x => { x with settling := false }) (f (modTx c (fun x => { x with settling := true }) s))) := by
  have hmid := h (modTx c (fun x => { x with settling := true }) s)
  refine ⟨((bounds_chan (.plain rfl rfl)).trans hmid.toKeepsBounds).trans (bounds_chan (.plain rfl rfl)),
    fun c' hr => ?_, fun c' hr => ?_⟩
  · refine forall_chan_modChan (p := fun x y => RunHolds x.context.run → RunHolds y.context.run) id (fun _ => id) c'
      (hmid.runs c' ?_)
    exact forall_chan_modChan (p := fun x y => RunHolds x.context.run → RunHolds y.context.run) id (fun _ => id) c' hr
  · by_cases hc : c' = c
    · subst hc
      simp at hr
    · simp only [modTx_eq, chan_modChan_ne _ _ _ hc] at hr
      simpa [hc] using hmid.settled c' hr

/-- What holds of every turn of a loop over a list holds of the loop. -/
theorem foldl {α : Type} {f : State → α → State} {l : List α} (h : ∀ s, ∀ a ∈ l, Keeps s (f s a)) (s : State) :
    Keeps s (l.foldl f s) := by
  induction l generalizing s with
  | nil => exact refl s
  | cons a l ih =>
    exact (h s a List.mem_cons_self).trans (ih (fun s b hb => h s b (List.mem_cons_of_mem a hb)) _)

end Keeps

end Sys2Proof.Machine

/-! # The cache law: one page moved, one want or spill made or ended -/

namespace Sys2Proof.Machine

/-! ## Numbers (R129, R138) -/

section Numbers

/-- The numbers tried are `n`, `n + 1`, and so on: the first that no entry holds is taken. -/
theorem freeNumber_spec (used : List Byte) (fuel : Nat) (n : Byte) :
    ∃ k ≤ fuel, freeNumber used fuel n = n + BitVec.ofNat 8 k ∧ (k < fuel → n + BitVec.ofNat 8 k ∉ used) ∧
      ∀ j < k, n + BitVec.ofNat 8 j ∈ used := by
  induction fuel generalizing n with
  | zero => exact ⟨0, le_rfl, by simp [freeNumber], nofun, nofun⟩
  | succ fuel ih =>
    by_cases h : n ∈ used
    · obtain ⟨k, hk, heq, hfree, hheld⟩ := ih (n + 1)
      have hnext (j : Nat) : n + 1 + BitVec.ofNat 8 j = n + BitVec.ofNat 8 (j + 1) := by
        rw [BitVec.ofNat_add, BitVec.add_assoc, BitVec.add_comm (BitVec.ofNat 8 j)]
        rfl
      refine ⟨k + 1, by omega, ?_, fun hlt => ?_, fun j hj => ?_⟩
      · rw [freeNumber, if_pos h, heq, hnext]
      · rw [← hnext]
        exact hfree (by omega)
      · cases j with
        | zero => simpa using h
        | succ j =>
          rw [← hnext]
          exact hheld j (by omega)
    · exact ⟨0, by omega, by simp [freeNumber, h], by simpa using h, nofun⟩

/-- With fewer entries than tries one of the numbers tried is free. -/
theorem freeNumber_first (used : List Byte) (n : Byte) (fuel : Nat) (hused : used.length < fuel) (hfuel : fuel ≤ 256) :
    ∃ k : Nat, k < fuel ∧ freeNumber used fuel n = n + BitVec.ofNat 8 k ∧
      n + BitVec.ofNat 8 k ∉ used ∧ ∀ j : Nat, j < k → n + BitVec.ofNat 8 j ∈ used := by
  obtain ⟨k, hk, heq, hfree, hheld⟩ := freeNumber_spec used fuel n
  have hlt : k < fuel := by
    by_contra hge
    have hinj : Set.InjOn (fun j => n + BitVec.ofNat 8 j) (Finset.range fuel : Set Nat) := by
      intro a ha b hb hab
      simp only [Finset.coe_range, Set.mem_Iio] at ha hb
      have := congrArg BitVec.toNat ((BitVec.add_right_inj n).1 hab)
      simp only [BitVec.toNat_ofNat] at this
      omega
    have hsub : (Finset.range fuel).image (fun j => n + BitVec.ofNat 8 j) ⊆ used.toFinset := by
      intro x hx
      obtain ⟨j, hj, rfl⟩ := Finset.mem_image.1 hx
      simp only [Finset.mem_range] at hj
      simpa using hheld j (by omega)
    have hcard := Finset.card_le_card hsub
    rw [Finset.card_image_of_injOn hinj, Finset.card_range] at hcard
    have := used.toFinset_card_le
    omega
  exact ⟨k, hlt, heq, hfree hlt, hheld⟩

theorem freeNumber_notMem {used : List Byte} {fuel : Nat} (n : Byte) (hused : used.length < fuel) (hfuel : fuel ≤ 256) :
    freeNumber used fuel n ∉ used := by
  obtain ⟨k, -, heq, hfree, -⟩ := freeNumber_first used n fuel hused hfuel
  rwa [heq]

end Numbers

section Moves

variable {s t : State} {d : DriveNo} {i : Nat}

/-! ## What the laws say of a page found -/

/-- A drive that may hold pages of every cache state: neither EMPTY nor IDLE. -/
def State.Awake (s : State) (d : DriveNo) : Prop := (s.drive d).state ≠ .empty ∧ (s.drive d).state ≠ .idle

theorem State.CacheLaws.wf (hs : s.CacheLaws) (d : DriveNo) : mapWf (s.drive d).map = true := hs.2.1.1 d

theorem State.CacheLaws.nodup (hs : s.CacheLaws) (h : Home) : (s.listed h).Nodup :=
  ((cacheLaw_iff.1 hs.2.1).2.1 h).1

theorem State.CacheLaws.mem_iff (hs : s.CacheLaws) (r : PageRef) (h : Home) : r ∈ s.listed h ↔ s.homeOf r = some h :=
  ((cacheLaw_iff.1 hs.2.1).2.1 h).2 r

theorem State.CacheLaws.whole (hs : s.CacheLaws) {p : CachePage} (hp : s.page d i = some p) (hf : p.state ≠ .filling) :
    p.data.length = 4096 := (cacheLaw_iff.1 hs.2.1).2.2 d p (mapFind_some_index hp).2 hf

theorem homeOf_of_page {p : CachePage} (hp : s.page d i = some p) : s.homeOf ⟨d, i⟩ = some p.state.home :=
  homeOf_eq_iff.2 ⟨p, hp, rfl⟩

theorem homeOf_of_absent (hp : s.page d i = none) : s.homeOf ⟨d, i⟩ = none := by
  rw [State.homeOf, mapHome, show mapFind i (s.drive d).map = none from hp]
  rfl

/-- A bound drive is INSERTED, PRESENT or in EJECT_WAIT (R103). -/
theorem State.CacheLaws.awake_of_bound (hs : s.CacheLaws) (hd : (s.drive d).bound.isSome = true) : s.Awake d := by
  obtain ⟨-, -, hbound, -⟩ := hs.2.2 d
  rcases hbound.1 hd with h | h | h <;> simp [State.Awake, h]

/-- A drive with a page that is not CLEAN is neither EMPTY nor IDLE (R109). -/
theorem State.CacheLaws.awake_of_home {h : Home} (hs : s.CacheLaws) (hr : s.homeOf ⟨d, i⟩ = some h) (hh : h ≠ .clean) :
    s.Awake d := by
  obtain ⟨-, -, -, -, hbare, hidle, -⟩ := hs.2.2 d
  obtain ⟨p, hp, rfl⟩ := homeOf_eq_iff.1 hr
  have hmem : p ∈ (s.drive d).map := (mapFind_some_index hp).2
  refine ⟨fun he => ?_, fun he => hh ?_⟩
  · rw [hbare he] at hmem
    cases hmem
  · rw [hidle he p hmem]
    rfl

/-- A page listed names a page of that home. -/
theorem State.CacheLaws.homeOf_of_mem (hs : s.CacheLaws) {r : PageRef} {h : Home} (hr : r ∈ s.listed h) :
    s.homeOf r = some h := (hs.mem_iff r h).1 hr

theorem State.CacheLaws.home_of_want (hs : s.CacheLaws) {w : Want} (hw : w ∈ s.wants) :
    s.homeOf ⟨w.drive, w.page⟩ = some .filling :=
  hs.homeOf_of_mem (h := .filling) (List.mem_map_of_mem (f := fun w : Want => (⟨w.drive, w.page⟩ : PageRef)) hw)

theorem State.CacheLaws.home_of_spill (hs : s.CacheLaws) {x : Spill} (hx : x ∈ s.spills) :
    s.homeOf ⟨x.drive, x.page⟩ = some .spilling :=
  hs.homeOf_of_mem (h := .spilling) (List.mem_map_of_mem (f := fun x : Spill => (⟨x.drive, x.page⟩ : PageRef)) hx)

/-- A list that the move of a page does not touch. -/
theorem State.CacheLaws.still (hs : s.CacheLaws) {h : Home} {o : Option Home} {p : Prop} (r : PageRef)
    (ho : s.homeOf r = o) (hp : p ↔ o = some h) : Relisted r p (s.listed h) (s.listed h) :=
  .same (hs.nodup h) (by rw [hs.mem_iff, ho, hp])

/-! ## One page put, one page erased -/

theorem mapHome_mapPut (p : CachePage) (j : Nat) (m : List CachePage) :
    mapHome j (mapPut p m) = if j = p.index then some p.state.home else mapHome j m := by
  unfold mapHome
  rw [mapFind_mapPut]
  split <;> rfl

theorem mapHome_mapErase {m : List CachePage} (hm : mapWf m = true) (j : Nat) :
    mapHome j (mapErase i m) = if j = i then none else mapHome j m := by
  unfold mapHome
  rw [mapFind_mapErase i j m hm]
  split <;> rfl

/-- The drives with one map replaced. -/
theorem drive_of_drives {f : Drive → Drive} (h : t.drives = (modDrive d f s).drives) (e : DriveNo) :
    t.drive e = if e = d then f (s.drive d) else s.drive e := by
  rw [State.drive, h]
  change (modDrive d f s).drive e = _
  split
  next he => subst he; exact drive_modDrive s e f
  next he => exact drive_modDrive_ne s d f he

/-- The laws of the drives, where one drive that is awake has another map, and wants and spills are those of before
or that drive's. -/
theorem drivesLaw_of_map {m : List CachePage} (hs : s.DrivesLaw) (hawake : s.Awake d)
    (hd : ∀ e, t.drive e = if e = d then { s.drive d with map := m } else s.drive e)
    (hcount : ∀ k ∈ (s.drive d).descriptor, m.countP CachePage.counts ≤ k.dirtyLimit)
    (hwants : ∀ w ∈ t.wants, w ∈ s.wants ∨ w.drive = d ∧ w.valid = (s.descriptor d).valid w.page)
    (hspills : ∀ y ∈ t.spills, y ∈ s.spills ∨ y.drive = d) : t.DrivesLaw := by
  have hbound (e : DriveNo) : (t.drive e).bound = (s.drive e).bound := by
    rw [hd]
    split
    next he => rw [he]
    · rfl
  have hdesc (e : DriveNo) : t.descriptor e = s.descriptor e := by
    rw [State.descriptor, hd, State.descriptor]
    split
    next he => rw [he]
    · rfl
  intro e
  obtain ⟨hempty, hlimit, hbind, hone, hbare, hidle, hnone, hvalid⟩ := hs e
  simp only [hbound, hdesc]
  have hone' (f : DriveNo) (c : Channel) (h : (s.drive e).bound = some c) (h' : (s.drive f).bound = some c) : f = e :=
    hone f c h h'
  by_cases he : e = d
  · subst he
    rw [hd, if_pos rfl]
    obtain ⟨hne, hni⟩ := hawake
    refine ⟨hempty, fun k hk => ⟨(hlimit k hk).1, ?_⟩, hbind, hone', fun h => absurd h hne, fun h => absurd h hni,
      fun h => absurd h (by simp [hne, hni]), fun w hw hwd => ?_⟩
    · rw [dirtyCount_eq]
      exact hcount k hk
    · rcases hwants w hw with h | ⟨-, h⟩
      · exact hvalid w h hwd
      · exact h
  · rw [hd, if_neg he]
    refine ⟨hempty, hlimit, hbind, hone', hbare, hidle, fun h => ⟨fun w hw => ?_, fun y hy => ?_⟩, fun w hw hwd => ?_⟩
    · rcases hwants w hw with h' | ⟨h', -⟩
      · exact (hnone h).1 w h'
      · exact h' ▸ Ne.symm he
    · rcases hspills y hy with h' | h'
      · exact (hnone h).2 y h'
      · exact h' ▸ Ne.symm he
    · rcases hwants w hw with h' | ⟨h', -⟩
      · exact hvalid w h' hwd
      · exact absurd (hwd.symm.trans h') he

/-- A page put into the map of a drive that is awake: DIRTY and spilling pages stay within the limit, and each list
names the page exactly where the page's new home is that list. -/
theorem cacheLaws_put {p : CachePage} (hs : s.CacheLaws) (htables : t.TablesFit) (hawake : s.Awake d)
    (hd : t.drives = (putPage d p s).drives) (hdata : p.state ≠ .filling → p.data.length = 4096)
    (hcount : p.counts = true → (∃ q, s.page d p.index = some q ∧ q.counts = true) ∨ s.hasRoom d = true)
    (hlists : ∀ h, Relisted ⟨d, p.index⟩ (p.state.home = h) (s.listed h) (t.listed h))
    (hwants : ∀ w ∈ t.wants, w ∈ s.wants ∨ w.drive = d ∧ w.valid = (s.descriptor d).valid w.page)
    (hspills : ∀ y ∈ t.spills, y ∈ s.spills ∨ y.drive = d) : t.CacheLaws := by
  have hdrive := drive_of_drives hd
  have hcounted := countP_mapPut CachePage.counts p (s.drive d).map (hs.wf d)
  refine ⟨htables, cacheLaw_of_relisted (d := d) (i := p.index) hs.2.1 (fun e => ?_)
    (mapWf_mapPut p _ (hs.wf d)) (fun j hj => ?_) (fun q hq => ?_) (fun h => ?_),
    drivesLaw_of_map hs.2.2 hawake hdrive (fun k hk => ?_) hwants hspills⟩
  · rw [hdrive]
    split <;> rfl
  · rw [mapHome_mapPut, if_neg hj]
  · rcases mem_mapPut hq with rfl | hq
    · exact hdata
    · exact (cacheLaw_iff.1 hs.2.1).2.2 d q hq
  · rw [mapHome_mapPut, if_pos rfl, Option.some_inj]
    exact hlists h
  · have hlimit := (hs.2.2 d).2.1 k hk
    rw [dirtyCount_eq] at hlimit
    cases hp : p.counts with
    | false =>
      rw [hp] at hcounted
      simp only [Bool.toNat_false] at hcounted
      omega
    | true =>
      rw [hp] at hcounted
      rcases hcount hp with ⟨q, hq, hqc⟩ | hroom
      · rw [show mapFind p.index (s.drive d).map = some q from hq] at hcounted
        simp only [Option.elim, hqc] at hcounted
        omega
      · simp only [State.hasRoom, State.descriptor, show (s.drive d).descriptor = some k from hk, Option.getD_some,
          dirtyCount_eq, decide_eq_true_eq] at hroom
        simp only [Bool.toNat_true] at hcounted
        omega

/-- A page erased from a drive's map, out of the list that named it; wants and spills are among those of before. -/
theorem cacheLaws_drop (hs : s.CacheLaws) (htables : t.TablesFit) (hd : t.drives = (dropPage d i s).drives)
    (hlists : ∀ h, Relisted ⟨d, i⟩ False (s.listed h) (t.listed h))
    (hwants : ∀ w ∈ t.wants, w ∈ s.wants) (hspills : ∀ y ∈ t.spills, y ∈ s.spills) : t.CacheLaws := by
  have hdrive := drive_of_drives hd
  refine ⟨htables, cacheLaw_of_relisted (d := d) (i := i) hs.2.1 (fun e => ?_) (mapWf_mapErase i _ (hs.wf d))
    (fun j hj => ?_) (fun q hq => (cacheLaw_iff.1 hs.2.1).2.2 d q (mem_mapErase hq)) (fun h => ?_), fun e => ?_⟩
  · rw [hdrive]
    split <;> rfl
  · rw [mapHome_mapErase (hs.wf d), if_neg hj]
  · rw [mapHome_mapErase (hs.wf d), if_pos rfl]
    simpa using hlists h
  · have hcount : (mapErase i (s.drive d).map).countP CachePage.counts ≤ (s.drive d).map.countP CachePage.counts := by
      have := countP_mapErase CachePage.counts i (s.drive d).map
      omega
    have hsame (e : DriveNo) : (t.drive e).descriptor = (s.drive e).descriptor ∧
        (t.drive e).bound = (s.drive e).bound ∧ (t.drive e).state = (s.drive e).state ∧
        (∀ p ∈ (t.drive e).map, p ∈ (s.drive e).map) ∧ (t.drive e).dirtyCount ≤ (s.drive e).dirtyCount := by
      rw [hdrive]
      split
      next he =>
        subst he
        exact ⟨rfl, rfl, rfl, fun _ => mem_mapErase, by simpa only [dirtyCount_eq] using hcount⟩
      · exact ⟨rfl, rfl, rfl, fun _ => id, le_rfl⟩
    obtain ⟨hempty, hlimit, hbind, hone, hbare, hidle, hnone, hvalid⟩ := hs.2.2 e
    obtain ⟨hdesc, hbound, hstate, hmem, hdirty⟩ := hsame e
    simp only [hdesc, hbound, hstate, State.descriptor]
    refine ⟨hempty, fun k hk => ⟨(hlimit k hk).1, hdirty.trans (hlimit k hk).2⟩, hbind,
      fun f c hc hf => hone f c hc ((hsame f).2.1 ▸ hf), fun h => ?_, fun h p hp => hidle h p (hmem p hp),
      fun h => ⟨fun w hw => (hnone h).1 w (hwants w hw), fun y hy => (hnone h).2 y (hspills y hy)⟩,
      fun w hw => hvalid w (hwants w hw)⟩
    exact List.eq_nil_iff_forall_not_mem.2 fun p hp => by
      have := hmem p hp
      rw [hbare h] at this
      cases this

/-! ## One entry of a table ended -/

/-- An entry removed by its number: its page leaves the pages that the table names, and no other does. -/
theorem relisted_remove {α : Type} {l : List α} {num : α → Byte} {ref : α → PageRef} {a : α}
    (hnum : (l.map num).Nodup) (href : (l.map ref).Nodup) (ha : a ∈ l) {p : Prop} (hp : ¬ p) :
    Relisted (ref a) p (l.map ref) ((l.filter fun x => num x ≠ num a).map ref) := by
  have hnumInj : ∀ x ∈ l, num x = num a → x = a := fun x hx h => List.inj_on_of_nodup_map hnum hx ha h
  have hrefInj : ∀ x ∈ l, ref x = ref a → x = a := fun x hx h => List.inj_on_of_nodup_map href hx ha h
  refine ⟨href.sublist ((List.filter_sublist).map ref), ?_, fun r hr => ?_⟩
  · simp only [hp, iff_false, List.mem_map, List.mem_filter, decide_eq_true_eq, not_exists, not_and]
    rintro x ⟨hx, hxn⟩ hxr
    exact hxn (by rw [hrefInj x hx hxr])
  · simp only [List.mem_map, List.mem_filter, decide_eq_true_eq]
    constructor
    · rintro ⟨x, ⟨hx, -⟩, rfl⟩
      exact ⟨x, hx, rfl⟩
    · rintro ⟨x, hx, rfl⟩
      exact ⟨x, ⟨hx, fun h => hr (by rw [hnumInj x hx h])⟩, rfl⟩

theorem tablesFit_filter {p : Want → Bool} {q : Spill → Bool} (hs : s.TablesFit) (hw : t.wants = s.wants.filter p)
    (hy : t.spills = s.spills.filter q) : t.TablesFit := by
  obtain ⟨hlen, hspills, hnodup, hspillNodup⟩ := hs
  simp only [State.TablesFit, hw, hy]
  exact ⟨(List.length_filter_le _ _).trans hlen, (List.length_filter_le _ _).trans hspills,
    hnodup.sublist ((List.filter_sublist).map _), hspillNodup.sublist ((List.filter_sublist).map _)⟩

theorem tablesFit_removeWant (n : Byte) (hs : s.TablesFit) (hw : t.wants = (removeWant n s).wants)
    (hy : t.spills = s.spills) : t.TablesFit :=
  tablesFit_filter (q := fun _ => true) hs hw (by rw [hy, List.filter_true])

theorem tablesFit_removeSpill (n : Byte) (hs : s.TablesFit) (hw : t.wants = s.wants)
    (hy : t.spills = (removeSpill n s).spills) : t.TablesFit :=
  tablesFit_filter (p := fun _ => true) hs (by rw [hw, List.filter_true]) hy

end Moves

end Sys2Proof.Machine

/-! # The cache and pool laws kept: takes, wants, writes, fills and spills -/

namespace Sys2Proof.Machine

section Counts

variable {s t : State} {d : DriveNo} {i : Nat}

/-! ## The pool's counts -/

theorem mapPut_length (p : CachePage) {m : List CachePage} (hm : mapWf m = true) :
    (mapPut p m).length + (mapFind p.index m).elim 0 (fun _ => 1) = m.length + 1 := by
  simpa only [List.countP_true, Bool.toNat_true] using countP_mapPut (fun _ => true) p m hm

theorem mapErase_length (i : Nat) (m : List CachePage) :
    (mapErase i m).length + (mapFind i m).elim 0 (fun _ => 1) = m.length := by
  simpa only [List.countP_true, Bool.toNat_true] using countP_mapErase (fun _ => true) i m

theorem cachePages_of_drives (h : t.drives = s.drives) : t.cachePages = s.cachePages := by
  rw [State.cachePages, h, State.cachePages]

theorem cachePages_put_present {p q : CachePage} (hs : s.CacheLaws) (hq : s.page d p.index = some q) :
    (putPage d p s).cachePages = s.cachePages := by
  have hsum : (putPage d p s).cachePages + (s.drive d).map.length = s.cachePages + (mapPut p (s.drive d).map).length :=
    cachePages_modDrive s d _
  have hlen := mapPut_length p (hs.wf d)
  rw [show mapFind p.index (s.drive d).map = some q from hq] at hlen
  simp only [Option.elim] at hlen
  omega

theorem cachePages_put_absent {p : CachePage} (hs : s.CacheLaws) (hq : s.page d p.index = none) :
    (putPage d p s).cachePages = s.cachePages + 1 := by
  have hsum : (putPage d p s).cachePages + (s.drive d).map.length = s.cachePages + (mapPut p (s.drive d).map).length :=
    cachePages_modDrive s d _
  have hlen := mapPut_length p (hs.wf d)
  rw [show mapFind p.index (s.drive d).map = none from hq] at hlen
  simp only [Option.elim] at hlen
  omega

theorem cachePages_drop {p : CachePage} (hp : s.page d i = some p) :
    (dropPage d i s).cachePages + 1 = s.cachePages := by
  have hsum : (dropPage d i s).cachePages + (s.drive d).map.length = s.cachePages + (mapErase i (s.drive d).map).length :=
    cachePages_modDrive s d _
  have hlen := mapErase_length i (s.drive d).map
  rw [show mapFind i (s.drive d).map = some p from hp] at hlen
  simp only [Option.elim] at hlen
  omega

/-- The pool check in the pool's counts (R90). -/
theorem poolCheck_iff : s.poolCheck = true ↔
    s.unmet + 1 ≤ 512 - (s.consolePages + s.cachePages) + s.cleanList.length := decide_eq_true_iff

/-- No fewer free and CLEAN pages, and no more cache pages. -/
theorem poolLaw_of_counts (hch : t.channels = s.channels) (hcache : t.cachePages ≤ s.cachePages)
    (hclean : s.cleanList.length + t.cachePages ≤ t.cleanList.length + s.cachePages) (hs : s.PoolLaw) : t.PoolLaw := by
  rw [Keeps.poolLaw_iff] at hs ⊢
  rw [Keeps.consolePages_of_channels hch, Keeps.unmet_of_channels hch]
  omega

/-- One free or CLEAN page fewer, with the pool check passed before (R90). -/
theorem poolLaw_of_check (hs : s.PoolLaw) (hch : t.channels = s.channels) (hcheck : s.poolCheck = true)
    (hcache : s.consolePages + t.cachePages ≤ 512)
    (hclean : s.cleanList.length + t.cachePages ≤ t.cleanList.length + s.cachePages + 1) : t.PoolLaw := by
  rw [poolCheck_iff] at hcheck
  rw [Keeps.poolLaw_iff] at hs
  rw [Keeps.poolLaw_iff, Keeps.consolePages_of_channels hch, Keeps.unmet_of_channels hch]
  omega

end Counts

section Pages

variable {s : State} {c : Channel} {d : DriveNo} {i : Nat}

/-! ## A take (R91) -/

theorem evict_cons {r : PageRef} {rest : List PageRef} (h : s.cleanList = r :: rest) :
    evict s = dropPage r.drive r.index { s with cleanList := rest } := by
  rw [evict, h]

/-- The page at the oldest end of the clean LRU list stands in its drive's map, CLEAN. -/
theorem oldest_clean {r : PageRef} {rest : List PageRef} (hs : s.CacheLaws) (h : s.cleanList = r :: rest) :
    ∃ p, s.page r.drive r.index = some p ∧ p.state.home = .clean :=
  homeOf_eq_iff.1 (hs.homeOf_of_mem (h := .clean) (by simp [State.listed, h]))

theorem keeps_evict : Keeps s (evict s) := by
  cases hl : s.cleanList with
  | nil =>
    rw [evict, hl]
    exact .refl s
  | cons r rest =>
    rw [evict_cons hl]
    refine .of_channels rfl rfl id (fun hs => ?_) fun hs hp => ?_
    · refine cacheLaws_drop (d := r.drive) (i := r.index) hs hs.1 rfl (fun h => ?_) (fun _ => id) fun _ => id
      have hhome := hs.homeOf_of_mem (r := r) (h := .clean) (by simp [State.listed, hl])
      have hclean := hs.nodup .clean
      cases h with
      | clean =>
        rw [State.listed, hl] at hclean ⊢
        exact .tail hclean not_false
      | dirty => exact hs.still (h := .dirty) r hhome (by simp)
      | spilling => exact hs.still (h := .spilling) r hhome (by simp)
      | filling => exact hs.still (h := .filling) r hhome (by simp)
    · obtain ⟨p, hpage, -⟩ := oldest_clean hs hl
      have hcount := cachePages_drop (s := { s with cleanList := rest }) hpage
      have hsame : State.cachePages { s with cleanList := rest } = s.cachePages := rfl
      refine poolLaw_of_counts (s := s) rfl (by omega) ?_ hp
      simp only [dropPage, modDrive_cleanList, hl, List.length_cons] at hcount ⊢
      omega

theorem keeps_takePage : Keeps s (takePage s) := by
  unfold takePage
  split
  · exact keeps_evict
  · exact .refl s

/-- A take changes the maps and the clean LRU list only. -/
theorem takePage_eq (s : State) :
    takePage s = { s with drives := (takePage s).drives, cleanList := (takePage s).cleanList } := by
  unfold takePage evict
  split
  · split <;> rfl
  · rfl

@[simp] theorem takePage_now : (takePage s).now = s.now := by rw [takePage_eq]
@[simp] theorem takePage_epoch : (takePage s).epoch = s.epoch := by rw [takePage_eq]
@[simp] theorem takePage_channels : (takePage s).channels = s.channels := by rw [takePage_eq]
@[simp] theorem takePage_wants : (takePage s).wants = s.wants := by rw [takePage_eq]
@[simp] theorem takePage_spills : (takePage s).spills = s.spills := by rw [takePage_eq]
@[simp] theorem takePage_spillQueue : (takePage s).spillQueue = s.spillQueue := by rw [takePage_eq]
@[simp] theorem takePage_wantCounter : (takePage s).wantCounter = s.wantCounter := by rw [takePage_eq]

/-- A take leaves every drive but for pages of its map. -/
theorem drive_takePage (s : State) (d : DriveNo) :
    ∃ m, (takePage s).drive d = { s.drive d with map := m } ∧ ((∀ i, mapFind i (s.drive d).map = none →
      mapWf (s.drive d).map = true → mapFind i m = none)) := by
  unfold takePage evict
  split
  · split
    · exact ⟨_, rfl, fun _ h _ => h⟩
    next r rest h =>
      by_cases hr : d = r.drive
      · subst hr
        refine ⟨_, drive_modDrive _ _ _, fun i hi hw => ?_⟩
        rw [show (State.drive { s with cleanList := rest } r.drive) = s.drive r.drive from rfl,
          mapFind_mapErase _ _ _ hw, hi, ite_self]
      · exact ⟨_, drive_modDrive_ne _ _ _ hr, fun _ h _ => h⟩
  · exact ⟨_, rfl, fun _ h _ => h⟩

@[simp] theorem descriptor_takePage : (takePage s).descriptor d = s.descriptor d := by
  obtain ⟨m, hm, -⟩ := drive_takePage s d
  rw [State.descriptor, hm, State.descriptor]

@[simp] theorem bound_takePage : ((takePage s).drive d).bound = (s.drive d).bound := by
  obtain ⟨m, hm, -⟩ := drive_takePage s d
  rw [hm]

theorem page_takePage_absent (hs : s.CacheLaws) (hp : s.page d i = none) : (takePage s).page d i = none := by
  obtain ⟨m, hm, hfind⟩ := drive_takePage s d
  rw [State.page, hm]
  exact hfind i hp (hs.wf d)

/-- A take leaves no more pages that count under the dirty limit. -/
theorem hasRoom_takePage (h : s.hasRoom d = true) : (takePage s).hasRoom d = true := by
  have hle : ((takePage s).drive d).dirtyCount ≤ (s.drive d).dirtyCount := by
    unfold takePage evict
    split
    · split
      · exact le_rfl
      next r rest _ =>
        by_cases hr : d = r.drive
        · subst hr
          simp only [dropPage, drive_modDrive, dirtyCount_eq]
          have := countP_mapErase CachePage.counts r.index (s.drive r.drive).map
          change List.countP _ (mapErase r.index (s.drive r.drive).map) ≤ _
          omega
        · simp only [dropPage, drive_modDrive_ne _ _ _ hr]
          exact le_rfl
    · exact le_rfl
  simp only [State.hasRoom, descriptor_takePage, decide_eq_true_eq] at h ⊢
  omega

/-- Where a page can be had, a take leaves a FREE page, and the free and CLEAN pages as many as before. -/
theorem takePage_counts (hs : s.CacheLaws) (hpool : s.consolePages + s.cachePages ≤ 512) (hone : 1 ≤ s.reclaimable) :
    s.consolePages + (takePage s).cachePages + 1 ≤ 512 ∧ (takePage s).cachePages ≤ s.cachePages ∧
      s.cleanList.length + (takePage s).cachePages = (takePage s).cleanList.length + s.cachePages := by
  simp only [State.reclaimable, State.freePages, State.cleanPages, Config.poolPages] at hone
  unfold takePage
  split
  next hfree =>
    simp only [State.freePages, Config.poolPages] at hfree
    cases hl : s.cleanList with
    | nil =>
      rw [hl, List.length_nil] at hone
      omega
    | cons r rest =>
      obtain ⟨p, hpage, -⟩ := oldest_clean hs hl
      have hcount := cachePages_drop (s := { s with cleanList := rest }) hpage
      have hsame : State.cachePages { s with cleanList := rest } = s.cachePages := rfl
      rw [evict_cons hl]
      simp only [dropPage, modDrive_cleanList, List.length_cons] at hcount ⊢
      omega
  next hfree =>
    simp only [State.freePages, Config.poolPages] at hfree
    omega

theorem one_le_of_check (h : s.poolCheck = true) : 1 ≤ s.reclaimable := by
  simp only [State.poolCheck, decide_eq_true_eq] at h
  omega

/-- A page put into a map after a take for which the pool check passed. -/
theorem poolLaw_put_taken {t : State} {p : CachePage} (hs : s.CacheLaws) (hpool : s.PoolLaw)
    (hcheck : s.poolCheck = true) (habsent : s.page d p.index = none) (hch : t.channels = s.channels)
    (hd : t.drives = (putPage d p (takePage s)).drives) (hclean : t.cleanList = (takePage s).cleanList) : t.PoolLaw := by
  obtain ⟨hroom, -, hcount⟩ := takePage_counts hs hpool.1 (one_le_of_check hcheck)
  have hput := cachePages_put_absent (p := p) (keeps_takePage.cache hs) (page_takePage_absent hs habsent)
  have hpages := cachePages_of_drives hd
  refine poolLaw_of_check hpool hch hcheck ?_ ?_
  · omega
  · rw [hclean]
    omega

/-! ## A want made (R93, R129) -/

/-- A want for an absent page, once room for it has been made. -/
def addWant (d : DriveNo) (i : Nat) (n : Byte) (due : Nat) (waiters : List Channel) (s : State) : State :=
  { putPage d ⟨i, .filling, []⟩ s with
    wants := s.wants ++ [⟨n, d, i, (s.descriptor d).valid i, false, due, waiters⟩], wantCounter := n + 1 }

theorem createWant_eq (waiters : List Channel) : createWant d i waiters s =
    addWant d i (freeNumber (s.wants.map (·.number)) 33 s.wantCounter)
      (s.deadline (s.descriptor d).fillTimeout) waiters (takePage s) := by
  rw [addWant, descriptor_takePage]
  rfl

theorem tablesFit_addWant {n : Byte} {due : Nat} {waiters : List Channel} (hlen : s.wants.length < 32)
    (hn : n ∉ s.wants.map (·.number)) (hs : s.TablesFit) : (addWant d i n due waiters s).TablesFit := by
  obtain ⟨-, hspills, hnodup, hspillNodup⟩ := hs
  refine ⟨by simp only [addWant, List.length_append, List.length_singleton]; omega, hspills, ?_, hspillNodup⟩
  rw [addWant, List.map_append]
  exact List.nodup_append.2 ⟨hnodup, List.nodup_singleton _, by
    rintro a ha b hb rfl
    obtain rfl := List.mem_singleton.1 hb
    exact hn ha⟩

theorem cacheLaws_addWant {n : Byte} {due : Nat} {waiters : List Channel} (hs : s.CacheLaws) (hawake : s.Awake d)
    (habsent : s.page d i = none) (hlen : s.wants.length < 32) (hn : n ∉ s.wants.map (·.number)) :
    (addWant d i n due waiters s).CacheLaws := by
  have hhome := homeOf_of_absent habsent
  refine cacheLaws_put (d := d) (p := ⟨i, .filling, []⟩) hs (tablesFit_addWant hlen hn hs.1) hawake rfl
    (fun h => absurd rfl h) nofun (fun h => ?_) (fun w hw => ?_) fun y hy => .inl hy
  · cases h with
    | clean => exact hs.still (h := .clean) _ hhome (by simp [CacheState.home])
    | dirty => exact hs.still (h := .dirty) _ hhome (by simp [CacheState.home])
    | spilling => exact hs.still (h := .spilling) _ hhome (by simp [CacheState.home])
    | filling =>
      have hlisted : (addWant d i n due waiters s).listed .filling = s.listed .filling ++ [⟨d, i⟩] := List.map_append
      rw [hlisted]
      exact .append (hs.nodup .filling) (fun h => by simpa [hhome] using hs.homeOf_of_mem (h := .filling) h) rfl
  · rw [addWant, List.mem_append, List.mem_singleton] at hw
    rcases hw with hw | rfl
    · exact .inl hw
    · exact .inr ⟨rfl, rfl⟩

theorem keeps_createWant {waiters : List Channel} (hd : (s.drive d).bound.isSome = true) (habsent : s.page d i = none)
    (hlen : s.wants.length < 32) (hcheck : s.poolCheck = true) : Keeps s (createWant d i waiters s) := by
  have hn := freeNumber_notMem (used := s.wants.map (·.number)) (fuel := 33) s.wantCounter
    (by rw [List.length_map]; omega) (by omega)
  rw [createWant_eq]
  refine .of_channels (by rw [takePage_eq]; rfl) (by rw [takePage_eq]; rfl) (fun htables => ?_) (fun hs => ?_) fun hs hp => ?_
  · exact tablesFit_addWant (by simpa using hlen) (by simpa using hn) (keeps_takePage.tables htables)
  · have hs' := keeps_takePage.cache hs
    exact cacheLaws_addWant hs' (hs'.awake_of_bound (by simpa using hd)) (page_takePage_absent hs habsent)
      (by simpa using hlen) (by simpa using hn)
  · exact poolLaw_put_taken (p := ⟨i, .filling, []⟩) hs hp hcheck habsent takePage_channels rfl rfl

/-! ## A page read (R126) -/

theorem length_touched {r : PageRef} {l : List PageRef} (hl : l.Nodup) (hr : r ∈ l) :
    ((l.filter fun x => x ≠ r) ++ [r]).length = l.length := by
  have := List.length_erase_of_mem hr
  have hpos := List.length_pos_of_mem hr
  rw [List.Nodup.erase_eq_filter hl] at this
  have heq : l.filter (fun x => decide (x ≠ r)) = l.filter (fun x => x != r) :=
    List.filter_congr fun x _ => by by_cases h : x = r <;> simp [h]
  rw [List.length_append, List.length_singleton, heq, this]
  omega

theorem length_unlisted {r : PageRef} {l : List PageRef} (hl : l.Nodup) (hr : r ∈ l) :
    (l.filter fun x => x ≠ r).length + 1 = l.length := by
  have := length_touched hl hr
  simpa using this

/-- A CLEAN page moves to the newest end of the clean LRU list (R89). -/
theorem keeps_touch {p : CachePage} (hp : s.page d i = some p) (hclean : p.state = .clean) :
    Keeps s (touch d i s) := by
  refine .of_channels rfl rfl id (fun hs => ?_) fun hs hpool => ?_
  · have hhome : s.homeOf ⟨d, i⟩ = some .clean := by rw [homeOf_of_page hp, hclean]; rfl
    obtain ⟨htables, hcache, hdrives⟩ := hs
    refine ⟨htables, cacheLaw_of_relisted (s := s) (d := d) (i := i) (m := (s.drive d).map) hcache (fun e => ?_)
      (hcache.1 d) (fun _ _ => rfl) ((cacheLaw_iff.1 hcache).2.2 d) (fun h => ?_), hdrives⟩
    · split
      next he => subst he; rfl
      · rfl
    · have hs : s.CacheLaws := ⟨htables, hcache, hdrives⟩
      change Relisted ⟨d, i⟩ (s.homeOf ⟨d, i⟩ = some h) _ _
      rw [hhome]
      cases h with
      | clean => exact .refreshed (hs.nodup .clean) rfl
      | dirty => exact hs.still (h := .dirty) _ hhome Iff.rfl
      | spilling => exact hs.still (h := .spilling) _ hhome Iff.rfl
      | filling => exact hs.still (h := .filling) _ hhome Iff.rfl
  · refine poolLaw_of_counts (s := s) rfl le_rfl (Nat.add_le_add_right (Nat.le_of_eq ?_) _) hpool
    refine (length_touched (hs.nodup .clean) ((hs.mem_iff ⟨d, i⟩ .clean).2 ?_)).symm
    rw [homeOf_of_page hp, hclean]
    rfl

end Pages

end Sys2Proof.Machine

/-! # The cache and pool laws kept: pages written, wants filled or failed, spills taken and ended -/

namespace Sys2Proof.Machine

/-! ## Bytes of a page -/

theorem length_sentBytes (data : List Byte) (n off : Nat) : (sentBytes off data n).length = n := by
  induction n generalizing off with
  | zero => rfl
  | succ n ih => rw [sentBytes, List.length_cons, ih]

theorem length_splice {off : Nat} {new data : List Byte} (h : new = [] ∨ off + new.length ≤ data.length) :
    (splice off new data).length = data.length := by
  simp only [splice, List.length_append, List.length_take, List.length_drop]
  rcases h with rfl | h
  · simp only [List.length_nil]
    omega
  · omega

theorem length_padPage {data : List Byte} (h : data.length ≤ 4096) : (padPage data).length = 4096 := by
  simp only [padPage, List.length_append, List.length_replicate, Config.pageBytes]
  omega

/-! ## Blocks of a page (R102) -/

theorem valid_le (k : Descriptor) (page : Nat) : k.valid page ≤ k.blocksPerPage := by
  unfold Descriptor.valid
  split
  next hlast =>
    have hpos : 0 < k.blocksPerPage := by
      by_contra h
      simp [Descriptor.imagePages, Nat.eq_zero_of_not_pos h] at hlast
    have hcap : k.capacity + k.blocksPerPage - 1 < (k.imagePages + 1) * k.blocksPerPage :=
      Nat.lt_mul_of_div_lt (Nat.lt_succ_self _) hpos
    rw [Descriptor.lastValid]
    have hsplit : (k.imagePages + 1) * k.blocksPerPage = (k.imagePages - 1) * k.blocksPerPage + 2 * k.blocksPerPage := by
      rw [← Nat.add_mul]
      congr 1
      omega
    omega
  · exact le_rfl

theorem blocksPerPage_mul_le (k : Descriptor) : k.blocksPerPage * k.blockSize ≤ 4096 :=
  Nat.div_mul_le_self _ _

theorem valid_mul_le (k : Descriptor) (page : Nat) : k.valid page * k.blockSize ≤ 4096 :=
  (Nat.mul_le_mul_right _ (valid_le k page)).trans (blocksPerPage_mul_le k)

/-- The blocks of a request in one page stay within that page. -/
theorem cursor_fits (k : Descriptor) (r : Request) : (cursor k r).blocks * k.blockSize = 0 ∨
    (cursor k r).offset * k.blockSize + (cursor k r).blocks * k.blockSize ≤ 4096 := by
  rw [← Nat.add_mul]
  by_cases hb : (cursor k r).blocks = 0
  · exact .inl (by rw [hb, Nat.zero_mul])
  · refine .inr ((Nat.mul_le_mul_right _ ?_).trans (blocksPerPage_mul_le k))
    simp only [cursor] at hb ⊢
    omega

theorem length_chunk (k : Descriptor) (r : Request) :
    (chunk k r (cursor k r)).length = (cursor k r).blocks * k.blockSize := length_sentBytes _ _ _

theorem length_chunk_le (k : Descriptor) (r : Request) : (chunk k r (cursor k r)).length ≤ 4096 := by
  rw [length_chunk]
  have := cursor_fits k r
  omega

theorem length_written (k : Descriptor) (r : Request) {data : List Byte} (h : data.length = 4096) :
    (splice ((cursor k r).offset * k.blockSize) (chunk k r (cursor k r)) data).length = 4096 := by
  rw [← h]
  refine length_splice ?_
  rw [← List.length_eq_zero_iff, length_chunk, h]
  exact cursor_fits k r

section Pages

variable {s : State} {c : Channel} {d : DriveNo} {i : Nat}

theorem length_le_touched {r : PageRef} {l : List PageRef} (hr : r ∉ l) :
    l.length ≤ ((l.filter fun x => x ≠ r) ++ [r]).length := by
  have hall : (l.filter fun x => x ≠ r) = l :=
    List.filter_eq_self.2 fun x hx => decide_eq_true fun h => hr (h ▸ hx)
  rw [hall, List.length_append]
  omega

theorem filling_of_home {v : CacheState} (h : v.home = .filling) : v = .filling := by
  cases v <;> simp_all [CacheState.home]

theorem clean_of_home {v : CacheState} (h : v.home = .clean) : v = .clean := by
  cases v <;> simp_all [CacheState.home]

/-! ## A page written (R135) -/

/-- A page replaced by one of the same home: DIRTY stays so, SPILLING becomes SPILLING_DIRTY. -/
theorem keeps_putPage_home {p q : CachePage} (hd : (s.drive d).bound.isSome = true) (hp : s.page d i = some p)
    (hq : q.index = i) (hhome : q.state.home = p.state.home) (hfill : p.state ≠ .filling)
    (hdata : p.data.length = 4096 → q.data.length = 4096) : Keeps s (putPage d q s) := by
  subst hq
  refine .of_channels rfl rfl id (fun hs => ?_) fun hs hpool => ?_
  · have hold := homeOf_of_page hp
    refine cacheLaws_put hs hs.1 (hs.awake_of_bound hd) rfl (fun _ => hdata (hs.whole hp hfill)) (fun hc => ?_)
      (fun h => hs.still _ hold (by rw [hhome, Option.some_inj])) (fun _ => .inl) fun _ => .inl
    rw [counts_iff, hhome, ← counts_iff] at hc
    exact .inl ⟨p, hp, hc⟩
  · have hcount := cachePages_put_present (p := q) hs hp
    exact poolLaw_of_counts (s := s) rfl hcount.le (Nat.add_le_add_left hcount.le _) hpool

/-- A CLEAN page converted: out of the clean LRU list, DIRTY, at the tail of the Spill Queue. -/
theorem keeps_convert {p q : CachePage} (hd : (s.drive d).bound.isSome = true) (hp : s.page d i = some p)
    (hclean : p.state = .clean) (hq : q.index = i) (hdirty : q.state = .dirty)
    (hdata : p.data.length = 4096 → q.data.length = 4096) (hroom : s.hasRoom d = true) (hcheck : s.poolCheck = true) :
    Keeps s (s |> unlist d i |> putPage d q |> queueSpill d i) := by
  subst hq
  refine .of_channels rfl rfl id (fun hs => ?_) fun hs hpool => ?_
  · have hold := homeOf_of_page hp
    rw [hclean] at hold
    refine cacheLaws_put (p := q) hs hs.1 (hs.awake_of_bound hd) rfl
      (fun _ => hdata (hs.whole hp (by simp [hclean]))) (fun _ => .inr hroom) (fun h => ?_) (fun _ => .inl) fun _ => .inl
    rw [hdirty]
    cases h with
    | clean => exact .filter (hs.nodup .clean) nofun
    | dirty => exact .append (hs.nodup .dirty) (fun h => by simpa [hold, CacheState.home] using hs.homeOf_of_mem (h := .dirty) h) rfl
    | spilling => exact hs.still (h := .spilling) _ hold (by simp [CacheState.home])
    | filling => exact hs.still (h := .filling) _ hold (by simp [CacheState.home])
  · have hcount : (putPage d q s).cachePages = s.cachePages := cachePages_put_present (p := q) hs hp
    have hmem : (⟨d, q.index⟩ : PageRef) ∈ s.listed .clean :=
      (hs.mem_iff _ .clean).2 (by rw [homeOf_of_page hp, hclean]; rfl)
    have hlen := length_unlisted (hs.nodup .clean) hmem
    have hpages : (s |> unlist d q.index |> putPage d q |> queueSpill d q.index).cachePages = s.cachePages := hcount
    have hfit := hpool.1
    refine poolLaw_of_check hpool (s := s) rfl hcheck ?_ ?_
    · rw [hpages]
      exact hfit
    · rw [hpages]
      change s.cleanList.length + _ ≤ (s.cleanList.filter fun x => x ≠ ⟨d, q.index⟩).length + _ + 1
      simp only [State.listed] at hlen
      omega

/-- An absent page taken and written whole: DIRTY, at the tail of the Spill Queue. -/
theorem keeps_placeDirty {q : CachePage} (hd : (s.drive d).bound.isSome = true) (hp : s.page d q.index = none)
    (hdirty : q.state = .dirty) (hdata : q.data.length = 4096) (hroom : s.hasRoom d = true)
    (hcheck : s.poolCheck = true) : Keeps s (s |> takePage |> putPage d q |> queueSpill d q.index) := by
  have htake := keeps_takePage (s := s)
  refine .of_channels htake.link takePage_channels htake.tables (fun hs₀ => ?_)
    fun hs hpool => poolLaw_put_taken hs hpool hcheck hp takePage_channels rfl rfl
  have hs := htake.cache hs₀
  have hold := homeOf_of_absent (page_takePage_absent hs₀ hp)
  refine cacheLaws_put (p := q) hs hs.1 (hs.awake_of_bound (by simpa using hd)) rfl (fun _ => hdata)
    (fun _ => .inr (hasRoom_takePage hroom)) (fun h => ?_) (fun _ => .inl) fun _ => .inl
  rw [hdirty]
  cases h with
  | clean => exact hs.still (h := .clean) _ hold (by simp [CacheState.home])
  | dirty => exact .append (hs.nodup .dirty) (fun h => by simpa [hold] using hs.homeOf_of_mem (h := .dirty) h) rfl
  | spilling => exact hs.still (h := .spilling) _ hold (by simp [CacheState.home])
  | filling => exact hs.still (h := .filling) _ hold (by simp [CacheState.home])

/-! ## A want filled or failed (R131 to R133) -/

/-- A want's page is FILLING in its drive's map, and no list but the Want Table names it. -/
theorem State.CacheLaws.page_of_want {w : Want} (hs : s.CacheLaws) (hw : w ∈ s.wants) :
    ∃ p, s.page w.drive w.page = some p ∧ p.state = .filling := by
  obtain ⟨p, hp, hh⟩ := homeOf_eq_iff.1 (hs.home_of_want hw)
  exact ⟨p, hp, filling_of_home hh⟩

theorem keeps_fill {w : Want} {data : List Byte} (hw : w ∈ s.wants) (hdata : s.CacheLaws → data.length ≤ 4096) :
    Keeps s (s |> putPage w.drive ⟨w.page, .clean, padPage data⟩ |> touch w.drive w.page |> removeWant w.number) := by
  refine .of_channels rfl rfl (fun htables => tablesFit_removeWant w.number htables rfl rfl) (fun hs => ?_)
    fun hs hpool => ?_
  · have hold := hs.home_of_want hw
    refine cacheLaws_put (d := w.drive) (p := ⟨w.page, .clean, padPage data⟩) hs
      (tablesFit_removeWant w.number hs.1 rfl rfl) (hs.awake_of_home hold nofun) rfl
      (fun _ => length_padPage (hdata hs)) nofun (fun h => ?_) (fun v hv => .inl (List.mem_filter.1 hv).1) fun _ => .inl
    cases h with
    | clean => exact .refreshed (hs.nodup .clean) rfl
    | dirty => exact hs.still (h := .dirty) _ hold (by simp [CacheState.home])
    | spilling => exact hs.still (h := .spilling) _ hold (by simp [CacheState.home])
    | filling =>
      exact relisted_remove (num := fun w : Want => w.number) (ref := fun w => ⟨w.drive, w.page⟩) hs.1.2.2.1
        (hs.nodup .filling) hw nofun
  · obtain ⟨p, hp, hfilling⟩ := hs.page_of_want hw
    have hcount := cachePages_put_present (p := ⟨w.page, .clean, padPage data⟩) hs hp
    refine poolLaw_of_counts (s := s) rfl hcount.le (Nat.add_le_add ?_ hcount.le) hpool
    have hnot : (⟨w.drive, w.page⟩ : PageRef) ∉ s.cleanList := fun h => by
      simpa [hs.home_of_want hw] using hs.homeOf_of_mem (h := .clean) h
    exact (length_le_touched hnot)

theorem keeps_fail {w : Want} (hw : w ∈ s.wants) :
    Keeps s (s |> dropPage w.drive w.page |> removeWant w.number) := by
  refine .of_channels rfl rfl (fun htables => tablesFit_removeWant w.number htables rfl rfl) (fun hs => ?_)
    fun hs hpool => ?_
  · have hold := hs.home_of_want hw
    refine cacheLaws_drop (d := w.drive) (i := w.page) hs (tablesFit_removeWant w.number hs.1 rfl rfl) rfl (fun h => ?_)
      (fun v hv => (List.mem_filter.1 hv).1) fun _ => id
    cases h with
    | clean => exact hs.still (h := .clean) _ hold (by simp)
    | dirty => exact hs.still (h := .dirty) _ hold (by simp)
    | spilling => exact hs.still (h := .spilling) _ hold (by simp)
    | filling =>
      exact relisted_remove (num := fun w : Want => w.number) (ref := fun w => ⟨w.drive, w.page⟩) hs.1.2.2.1
        (hs.nodup .filling) hw nofun
  · obtain ⟨p, hp, -⟩ := hs.page_of_want hw
    have hcount := cachePages_drop hp
    have hpages : (s |> dropPage w.drive w.page |> removeWant w.number).cachePages + 1 = s.cachePages := hcount
    exact poolLaw_of_counts (s := s) rfl (by omega) (by
      rw [← hpages]
      exact Nat.add_le_add_left (Nat.le_succ _) _) hpool

/-! ## A spill taken or ended (R139 to R141) -/

theorem keeps_handSpill {r : PageRef} {rest : List PageRef} {p : CachePage} {n : Byte} (hq : s.spillQueue = r :: rest)
    (hp : ∀ q, s.page r.drive r.index = some q → p = q) (hlen : s.spills.length < 8)
    (hn : n ∉ s.spills.map (·.number)) : Keeps s (handSpill r rest p n s) := by
  have htables (htables : s.TablesFit) : (handSpill r rest p n s).TablesFit := by
    obtain ⟨hwants, -, hnodup, hspillNodup⟩ := htables
    refine ⟨hwants, by change (s.spills ++ [_]).length ≤ 8; rw [List.length_append, List.length_singleton]; omega,
      hnodup, ?_⟩
    change ((s.spills ++ [_]).map fun x : Spill => x.number).Nodup
    rw [List.map_append]
    exact List.nodup_append.2 ⟨hspillNodup, List.nodup_singleton _, by
      rintro a ha b hb rfl
      obtain rfl := List.mem_singleton.1 hb
      exact hn ha⟩
  have found (hs : s.CacheLaws) : s.page r.drive r.index = some p ∧ p.state.home = .dirty ∧ p.index = r.index := by
    obtain ⟨q, hpage, hhome⟩ := homeOf_eq_iff.1 (hs.homeOf_of_mem (r := r) (h := .dirty) (by simp [State.listed, hq]))
    obtain rfl := hp q hpage
    exact ⟨hpage, hhome, (mapFind_some_index hpage).1⟩
  refine .of_channels rfl rfl htables (fun hs => ?_) fun hs hpool => ?_
  · obtain ⟨hpage, hhome, hindex⟩ := found hs
    have hold := homeOf_of_page hpage
    rw [hhome] at hold
    refine cacheLaws_put (d := r.drive) (p := { p with state := .spilling }) hs (htables hs.1)
      (hs.awake_of_home hold nofun) rfl
      (fun _ => hs.whole (p := p) hpage fun hf => by simp [hf, CacheState.home] at hhome)
      (fun _ => .inl ⟨p, hindex ▸ hpage, (counts_iff p).2 (.inl hhome)⟩) (fun h => ?_) (fun _ => .inl) (fun y hy => ?_)
    · rw [show (⟨r.drive, ({ p with state := .spilling } : CachePage).index⟩ : PageRef) = r from by simp [hindex]]
      have hdirty := hs.nodup .dirty
      cases h with
      | clean => exact hs.still (h := .clean) r hold (by simp [CacheState.home])
      | dirty =>
        simp only [State.listed, hq] at hdirty ⊢
        exact .tail hdirty nofun
      | spilling =>
        have hlisted : (handSpill r rest p n s).listed .spilling = s.listed .spilling ++ [r] := List.map_append
        rw [hlisted]
        exact .append (hs.nodup .spilling) (fun h => by simpa [hold] using hs.homeOf_of_mem (h := .spilling) h) rfl
      | filling => exact hs.still (h := .filling) r hold (by simp [CacheState.home])
    · change y ∈ s.spills ++ [_] at hy
      rw [List.mem_append, List.mem_singleton] at hy
      refine hy.imp_right fun h => ?_
      rw [h]
  · obtain ⟨hpage, -, hindex⟩ := found hs
    have hcount := cachePages_put_present (p := { p with state := .spilling }) hs (hindex ▸ hpage)
    exact poolLaw_of_counts (s := s) rfl hcount.le (Nat.add_le_add_left hcount.le _) hpool

/-- What the end of a spill makes of its page: DIRTY at the head, or as the host has stored it. -/
theorem keeps_moveSpilled {x : Spill} (hx : x ∈ s.spills) (retry : Bool) :
    Keeps s (s |> removeSpill x.number |> moveSpilled x.drive x.page retry) := by
  have found (hs : s.CacheLaws) : ∃ p, s.page x.drive x.page = some p ∧ p.state.home = .spilling ∧ p.index = x.page := by
    obtain ⟨p, hp, hh⟩ := homeOf_eq_iff.1 (hs.home_of_spill hx)
    exact ⟨p, hp, hh, (mapFind_some_index hp).1⟩
  have hpage : (removeSpill x.number s).page x.drive x.page = s.page x.drive x.page := rfl
  -- the page of a home other than the spill table, in a state whose lists say so
  have step {t : State} {p : CachePage} {v : CacheState} (hp : s.page x.drive x.page = some p) (hv : v.home ≠ .filling)
      (hch : t.channels = s.channels) (hlink : t.link = s.link)
      (hd : t.drives = (putPage x.drive { p with state := v } s).drives)
      (hwants : t.wants = s.wants) (hspills : t.spills = (removeSpill x.number s).spills)
      (hlists : s.CacheLaws → ∀ h, h ≠ .spilling → h ≠ .filling →
        Relisted ⟨x.drive, x.page⟩ (v.home = h) (s.listed h) (t.listed h))
      (hvs : v.home ≠ .spilling) (hclean : s.CacheLaws → s.cleanList.length ≤ t.cleanList.length) : Keeps s t := by
    have htables (h : s.TablesFit) : t.TablesFit := tablesFit_removeSpill x.number h hwants hspills
    refine .of_channels hlink hch htables (fun hs => ?_) fun hs hpool => ?_
    · obtain ⟨q, hq, hhome, hindex⟩ := found hs
      obtain rfl : p = q := Option.some.inj (hp.symm.trans hq)
      have hold := homeOf_of_page hp
      rw [hhome] at hold
      refine cacheLaws_put (p := { p with state := v }) hs (htables hs.1) (hs.awake_of_home hold nofun) hd
        (fun _ => hs.whole (p := p) hp fun hf => by simp [hf, CacheState.home] at hhome)
        (fun _ => .inl ⟨p, hindex ▸ hp, (counts_iff p).2 (.inr hhome)⟩) (fun h => ?_) (fun w hw => .inl (hwants ▸ hw))
        (fun y hy => .inl (List.mem_filter.1 (hspills ▸ hy : y ∈ (removeSpill x.number s).spills)).1)
      simp only [hindex]
      cases h with
      | clean => exact hlists hs .clean nofun nofun
      | dirty => exact hlists hs .dirty nofun nofun
      | spilling =>
        have hlisted : t.listed .spilling = (removeSpill x.number s).listed .spilling := by
          simp only [State.listed, hspills]
        rw [hlisted]
        exact relisted_remove (num := fun x : Spill => x.number) (ref := fun x => ⟨x.drive, x.page⟩) hs.1.2.2.2
          (hs.nodup .spilling) hx hvs
      | filling =>
        rw [show t.listed .filling = s.listed .filling by simp only [State.listed, hwants]]
        exact hs.still (h := .filling) _ hold (by simp [hv])
    · obtain ⟨q, hq, -, hindex⟩ := found hs
      obtain rfl : p = q := Option.some.inj (hp.symm.trans hq)
      have hcount := cachePages_put_present (p := { p with state := v }) hs (hindex ▸ hp)
      rw [← cachePages_of_drives hd] at hcount
      exact poolLaw_of_counts (s := s) hch hcount.le (Nat.add_le_add (hclean hs) hcount.le) hpool
  have absent (hp : s.page x.drive x.page = none) : Keeps s (removeSpill x.number s) :=
    .of_channels rfl rfl (fun h => tablesFit_removeSpill x.number h rfl rfl)
      (fun hs => by obtain ⟨p, hq, -⟩ := found hs; simp [hp] at hq)
      fun hs _ => by obtain ⟨p, hq, -⟩ := found hs; simp [hp] at hq
  have hnotin {h : Home} (hs : s.CacheLaws) (hh : h ≠ .spilling) : (⟨x.drive, x.page⟩ : PageRef) ∉ s.listed h :=
    fun hm => hh (Option.some.inj ((hs.homeOf_of_mem hm).symm.trans (hs.home_of_spill hx)))
  cases retry with
  | true =>
    simp only [moveSpilled, if_true, spillToHead, hpage]
    split
    next hp => exact absent hp
    next p hp =>
      refine step (v := .dirty) hp nofun rfl rfl rfl rfl rfl (fun hs h hsp hf => ?_) nofun fun _ => le_rfl
      cases h with
      | clean => exact hs.still (h := .clean) _ (hs.home_of_spill hx) (by simp [CacheState.home])
      | dirty => exact .cons (hs.nodup .dirty) (hnotin (h := .dirty) hs nofun) rfl
      | spilling => exact absurd rfl hsp
      | filling => exact absurd rfl hf
  | false =>
    simp only [moveSpilled, Bool.false_eq_true, if_false, spillStored, hpage]
    split
    next hp => exact absent hp
    next p hp =>
      split
      · refine step (v := .clean) hp nofun rfl rfl rfl rfl rfl (fun hs h hsp hf => ?_) nofun fun hs => length_le_touched (hnotin (h := .clean) hs nofun)
        · cases h with
          | clean => exact .refreshed (hs.nodup .clean) rfl
          | dirty => exact hs.still (h := .dirty) _ (hs.home_of_spill hx) (by simp [CacheState.home])
          | spilling => exact absurd rfl hsp
          | filling => exact absurd rfl hf
      · refine step (v := .dirty) hp nofun rfl rfl rfl rfl rfl (fun hs h hsp hf => ?_) nofun fun _ => le_rfl
        cases h with
        | clean => exact hs.still (h := .clean) _ (hs.home_of_spill hx) (by simp [CacheState.home])
        | dirty => exact .append (hs.nodup .dirty) (hnotin (h := .dirty) hs nofun) rfl
        | spilling => exact absurd rfl hsp
        | filling => exact absurd rfl hf

end Pages

end Sys2Proof.Machine

/-! # The laws kept by the drives: loaded, unloaded, bound, unbound, asked and drained -/

namespace Sys2Proof.Machine

/-! ## One drive's record replaced -/

/-- A record that may stand at a drive in a state: the drive's clauses of R101, R103, R109, R129 and R136. -/
structure DriveFits (s : State) (d : DriveNo) (y : Drive) : Prop where
  named : y.descriptor = none ↔ y.state = .empty
  limits : ∀ k ∈ y.descriptor, k.Law ∧ y.dirtyCount ≤ k.dirtyLimit
  bound : y.bound.isSome = true ↔ y.state = .inserted ∨ y.state = .present ∨ y.state = .ejectWait
  only : ∀ (e : DriveNo) (c : Channel), e ≠ d → y.bound = some c → (s.drive e).bound ≠ some c
  bare : y.state = .empty → y.map = []
  idle : y.state = .idle → ∀ p ∈ y.map, p.state = .clean
  unused : y.state = .empty ∨ y.state = .idle → (∀ w ∈ s.wants, w.drive ≠ d) ∧ ∀ x ∈ s.spills, x.drive ≠ d
  valid : ∀ w ∈ s.wants, w.drive = d → w.valid = (y.descriptor.getD .nothing).valid w.page

section Records

variable {s t : State} {c : Channel} {d : DriveNo} {f : Drive → Drive}

theorem State.DrivesLaw.fits (hs : s.DrivesLaw) (d : DriveNo) : DriveFits s d (s.drive d) := by
  obtain ⟨named, limits, bound, only, bare, idle, unused, valid⟩ := hs d
  exact ⟨named, limits, bound, fun e c he h h' => he (only e c h h'), bare, idle, unused, valid⟩

theorem drivesLaw_modDrive (hs : s.DrivesLaw) (hf : DriveFits s d (f (s.drive d))) : (modDrive d f s).DrivesLaw := by
  intro e
  by_cases he : e = d
  · subst he
    simp only [State.descriptor, drive_modDrive, modDrive_wants, modDrive_spills]
    refine ⟨hf.named, hf.limits, hf.bound, fun e' c hc hc' => ?_, hf.bare, hf.idle, hf.unused, hf.valid⟩
    by_contra hne
    rw [drive_modDrive_ne s e f hne] at hc'
    exact hf.only e' c hne hc hc'
  · simp only [State.descriptor, drive_modDrive_ne s d f he, modDrive_wants, modDrive_spills]
    obtain ⟨named, limits, bound, only, bare, idle, unused, valid⟩ := hs e
    refine ⟨named, limits, bound, fun e' c hc hc' => ?_, bare, idle, unused, valid⟩
    by_cases he' : e' = d
    · subst he'
      rw [drive_modDrive] at hc'
      exact absurd hc (hf.only e c he hc')
    · rw [drive_modDrive_ne s d f he'] at hc'
      exact only e' c hc hc'

theorem drive_modDrive_map (hmap : (f (s.drive d)).map = (s.drive d).map) (e : DriveNo) :
    ((modDrive d f s).drive e).map = (s.drive e).map := by
  by_cases he : e = d
  · subst he
    rw [drive_modDrive, hmap]
  · rw [drive_modDrive_ne s d f he]

/-- One drive's record changed but for its map, as its laws allow. -/
theorem keeps_record (hmap : (f (s.drive d)).map = (s.drive d).map)
    (hfits : s.CacheLaws → DriveFits s d (f (s.drive d))) : Keeps s (modDrive d f s) := by
  have hmaps := drive_modDrive_map hmap
  refine .of_channels rfl rfl id (fun hs => ⟨hs.1, ?_, drivesLaw_modDrive hs.2.2 (hfits hs)⟩) fun _ hpool => ?_
  · have hhome (r : PageRef) : (modDrive d f s).homeOf r = s.homeOf r := by rw [State.homeOf, hmaps, State.homeOf]
    obtain ⟨hordered, hlists, hwhole⟩ := cacheLaw_iff.1 hs.2.1
    refine cacheLaw_iff.2 ⟨fun e => hmaps e ▸ hordered e, fun h => ?_, fun e => hmaps e ▸ hwhole e⟩
    simp only [hhome]
    exact hlists h
  · rw [Keeps.poolLaw_iff, Keeps.cachePages_of_maps hmaps]
    exact hpool

/-- One drive's flags or waiters changed: nothing that a law reads. -/
theorem keeps_driveQuiet (h : Keeps.SameDrive (s.drive d) (f (s.drive d))) : Keeps s (modDrive d f s) :=
  .quiet (hd := fun e => by
    by_cases he : e = d
    · subst he
      rwa [drive_modDrive]
    · rw [drive_modDrive_ne s d f he]
      exact ⟨rfl, rfl, rfl, rfl⟩)

theorem keeps_raiseDrive : Keeps s (raiseDrive d s) := keeps_driveQuiet ⟨rfl, rfl, rfl, rfl⟩

theorem keeps_raiseServerEject : Keeps s (raiseServerEject d s) := keeps_driveQuiet ⟨rfl, rfl, rfl, rfl⟩

/-- Another state of the same bound drive: the binding, the descriptor and the map stand. -/
theorem DriveFits.moved {x y : Drive} (h : DriveFits s d x) (hdesc : y.descriptor = x.descriptor) (hmap : y.map = x.map)
    (hbound : y.bound = x.bound) (hx : x.state = .inserted ∨ x.state = .present ∨ x.state = .ejectWait)
    (hy : y.state = .inserted ∨ y.state = .present ∨ y.state = .ejectWait) : DriveFits s d y := by
  have hne : y.state ≠ .empty := by rcases hy with hy | hy | hy <;> simp [hy]
  have hni : y.state ≠ .idle := by rcases hy with hy | hy | hy <;> simp [hy]
  have hxe : x.state ≠ .empty := by rcases hx with hx | hx | hx <;> simp [hx]
  refine ⟨?_, ?_, ?_, ?_, fun h => absurd h hne, fun h => absurd h hni, ?_, ?_⟩
  · simp [hdesc, h.named, hne, hxe]
  · simpa only [hdesc, dirtyCount_eq, hmap] using h.limits
  · simp [hbound, h.bound.2 hx, hy]
  · rw [hbound]
    exact h.only
  · simp [hne, hni]
  · rw [hdesc]
    exact h.valid

/-! ## Bound, unbound and drained (R105 to R108) -/

/-- An IDLE drive bound to a channel that has none. -/
theorem keeps_bind (hidle : (s.drive d).state = .idle) (hfree : ∀ e, (s.drive e).bound ≠ some c)
    (hf : (f (s.drive d)).map = (s.drive d).map ∧ (f (s.drive d)).descriptor = (s.drive d).descriptor ∧
      (f (s.drive d)).state = .inserted ∧ (f (s.drive d)).bound = some c) : Keeps s (modDrive d f s) := by
  obtain ⟨hmap, hdesc, hstate, hbound⟩ := hf
  refine keeps_record hmap fun hs => ?_
  have h := hs.2.2.fits d
  refine ⟨?_, ?_, ?_, fun e c' _ hc => ?_, ?_, ?_, ?_, ?_⟩
  · simp [hdesc, h.named, hstate, hidle]
  · simpa only [hdesc, dirtyCount_eq, hmap] using h.limits
  · simp [hbound, hstate]
  · obtain rfl : c = c' := by simpa [hbound] using hc
    exact hfree e
  · simp [hstate]
  · simp [hstate]
  · simp [hstate]
  · rw [hdesc]
    exact h.valid

/-- A bound drive enters DRAINING and is bound no more. -/
theorem keeps_unbound (hb : (s.drive d).bound = some c)
    (hf : (f (s.drive d)).map = (s.drive d).map ∧ (f (s.drive d)).descriptor = (s.drive d).descriptor ∧
      (f (s.drive d)).state = .draining ∧ (f (s.drive d)).bound = none) : Keeps s (modDrive d f s) := by
  obtain ⟨hmap, hdesc, hstate, hbound⟩ := hf
  refine keeps_record hmap fun hs => ?_
  have h := hs.2.2.fits d
  have hawake := (hs.awake_of_bound (d := d) (by rw [hb]; rfl)).1
  refine ⟨?_, ?_, ?_, ?_, ?_, ?_, ?_, ?_⟩
  · simp [hdesc, h.named, hstate, hawake]
  · simpa only [hdesc, dirtyCount_eq, hmap] using h.limits
  · simp [hbound, hstate]
  · simp [hbound]
  · simp [hstate]
  · simp [hstate]
  · simp [hstate]
  · rw [hdesc]
    exact h.valid

/-- A page of a drive with no dirty page and no want is CLEAN. -/
theorem State.CacheLaws.clean_of_drained (hs : s.CacheLaws) (hdirty : (s.drive d).dirtyCount = 0)
    (hwants : ∀ w ∈ s.wants, w.drive ≠ d) {p : CachePage} {i : Nat} (hp : s.page d i = some p) : p.state = .clean := by
  rw [dirtyCount_eq, List.countP_eq_zero] at hdirty
  have hcount := mt (counts_iff p).2 (hdirty p (mapFind_some_index hp).2)
  have hfilling : p.state.home ≠ .filling := fun h => by
    have hmem := (hs.mem_iff ⟨d, i⟩ .filling).2 (by rw [homeOf_of_page hp, h])
    obtain ⟨w, hw, heq⟩ := List.mem_map.1 hmem
    exact hwants w hw (congrArg PageRef.drive heq)
  refine clean_of_home ?_
  cases h : p.state.home <;> simp_all

/-- Every page of a map in order is found at its index. -/
theorem mapFind_of_mem {p : CachePage} {m : List CachePage} (hm : mapWf m = true) (hp : p ∈ m) :
    mapFind p.index m = some p := by
  induction m with
  | nil => cases hp
  | cons q rest ih =>
    obtain ⟨hlt, hrest⟩ := mapWf_cons.1 hm
    rcases List.mem_cons.1 hp with rfl | hp
    · simp [mapFind]
    · rw [mapFind, if_neg (hlt p hp).ne, ih hrest hp]

/-- Where no page counts as dirty and no want names the drive, no spill does either. -/
theorem State.CacheLaws.no_spill_of_drained (hs : s.CacheLaws) (hdirty : (s.drive d).dirtyCount = 0) :
    ∀ x ∈ s.spills, x.drive ≠ d := by
  rintro x hx rfl
  obtain ⟨p, hp, hhome⟩ := homeOf_eq_iff.1 (hs.home_of_spill hx)
  rw [dirtyCount_eq, List.countP_eq_zero] at hdirty
  exact hdirty p (mapFind_some_index hp).2 ((counts_iff p).2 (.inr hhome))

theorem keeps_testDrain : Keeps s (testDrain d s) := by
  unfold testDrain
  split
  next h =>
    obtain ⟨hstate, hdirty, hwants⟩ := h
    simp only [List.all_eq_true, decide_eq_true_eq] at hwants
    refine keeps_record rfl fun hs => ?_
    have hfits := hs.2.2.fits d
    refine ⟨?_, hfits.limits, ?_, hfits.only, nofun, fun _ p hp => ?_, fun _ => ⟨hwants, hs.no_spill_of_drained hdirty⟩,
      hfits.valid⟩
    · simp [hfits.named, hstate]
    · simp [hfits.bound, hstate]
    · exact hs.clean_of_drained hdirty hwants (mapFind_of_mem (hs.wf d) hp)
  · exact .refl s

/-! ## Loaded and unloaded (R104) -/

/-- A drive that is EMPTY or IDLE: no binding, only CLEAN pages, no wants, no spills. -/
theorem State.CacheLaws.clean_of_unbound (hs : s.CacheLaws)
    (hd : (s.drive d).state = .empty ∨ (s.drive d).state = .idle) {h : Home} {i : Nat}
    (hh : s.homeOf ⟨d, i⟩ = some h) : h = .clean := by
  by_contra hne
  obtain ⟨h1, h2⟩ := hs.awake_of_home hh hne
  exact hd.elim h1 h2

/-- The CLEAN pages of a drive are no more than its pages. -/
theorem State.CacheLaws.length_clean_le (hs : s.CacheLaws) :
    s.cleanList.length ≤ (s.cleanList.filter fun r => r.drive ≠ d).length + (s.drive d).map.length := by
  have hsub : (s.cleanList.filter fun r => !decide (r.drive ≠ d)) ⊆
      (s.drive d).map.map fun p => (⟨d, p.index⟩ : PageRef) := by
    rintro ⟨e, i⟩ hr
    obtain ⟨hmem, he⟩ := List.mem_filter.1 hr
    obtain rfl : e = d := by simpa using he
    obtain ⟨p, hp, -⟩ := homeOf_eq_iff.1 (hs.homeOf_of_mem (h := .clean) hmem)
    obtain ⟨hindex, hp⟩ := mapFind_some_index hp
    exact List.mem_map.2 ⟨p, hp, by rw [hindex]⟩
  have hle := ((hs.nodup .clean).filter fun r => !decide (r.drive ≠ d)).subperm hsub |>.length_le
  rw [List.length_map] at hle
  have hsplit := List.length_eq_length_filter_add (l := s.cleanList) fun r : PageRef => decide (r.drive ≠ d)
  simp only [State.listed] at hle
  omega

theorem keeps_freeDrive (hd : (s.drive d).state = .empty ∨ (s.drive d).state = .idle) : Keeps s (freeDrive d s) := by
  refine .of_channels rfl rfl id (fun hs => ⟨hs.1, ?_, ?_⟩) fun hs hpool => ?_
  · obtain ⟨hordered, hlists, hwhole⟩ := cacheLaw_iff.1 hs.2.1
    have hmap (e : DriveNo) : ((freeDrive d s).drive e).map = if e = d then [] else (s.drive e).map := by
      split
      next he =>
        subst he
        exact congrArg Drive.map (drive_modDrive _ _ _)
      next he => exact congrArg Drive.map (drive_modDrive_ne _ _ _ he)
    refine cacheLaw_iff.2 ⟨fun e => ?_, fun h => ⟨?_, fun r => ?_⟩, fun e p hp => ?_⟩
    · rw [hmap]
      split
      · rfl
      · exact hordered e
    · cases h with
      | clean => exact (hs.nodup .clean).filter _
      | dirty => exact hs.nodup .dirty
      | spilling => exact hs.nodup .spilling
      | filling => exact hs.nodup .filling
    · obtain ⟨e, i⟩ := r
      rw [State.homeOf, hmap]
      by_cases he : e = d
      · subst he
        simp only [if_true, mapHome, mapFind, Option.map_none, reduceCtorEq, iff_false]
        intro hmem
        cases h with
        | clean => simpa using (List.mem_filter.1 hmem).2
        | dirty => cases hs.clean_of_unbound hd (hs.homeOf_of_mem (h := .dirty) hmem)
        | spilling => cases hs.clean_of_unbound hd (hs.homeOf_of_mem (h := .spilling) hmem)
        | filling => cases hs.clean_of_unbound hd (hs.homeOf_of_mem (h := .filling) hmem)
      · simp only [if_neg he]
        refine Iff.trans ?_ (hs.mem_iff ⟨e, i⟩ h)
        cases h with
        | clean => simp [State.listed, freeDrive, he]
        | dirty => exact Iff.rfl
        | spilling => exact Iff.rfl
        | filling => exact Iff.rfl
    · rw [hmap] at hp
      split at hp
      · cases hp
      · exact hwhole e p hp
  · have h := hs.2.2.fits d
    exact drivesLaw_modDrive (s := { s with cleanList := _ }) hs.2.2
      ⟨h.named, fun k hk => ⟨(h.limits k hk).1, Nat.zero_le _⟩, h.bound, h.only, fun _ => rfl, nofun, h.unused, h.valid⟩
  · have hsum : (freeDrive d s).cachePages + (s.drive d).map.length = s.cachePages + 0 :=
      cachePages_modDrive { s with cleanList := s.cleanList.filter fun r => r.drive ≠ d } d _
    have hlen := hs.length_clean_le (d := d)
    refine poolLaw_of_counts (s := s) rfl (by omega) ?_ hpool
    change s.cleanList.length + _ ≤ (s.cleanList.filter fun r => r.drive ≠ d).length + _
    omega

/-- An emptied drive that is EMPTY or IDLE takes or loses a descriptor. -/
theorem keeps_describe {o : Option Descriptor} {v : DriveState}
    (hd : (s.drive d).state = .empty ∨ (s.drive d).state = .idle) (hmap : (s.drive d).map = [])
    (hv : v = .empty ∧ o = none ∨ v = .idle ∧ o.isSome = true) (hlaw : ∀ k ∈ o, k.Law) :
    Keeps s (modDrive d (fun x => { x with descriptor := o, state := v }) s) := by
  refine keeps_record rfl fun hs => ?_
  have h := hs.2.2.fits d
  have hbound : (s.drive d).bound = none := by
    have := mt h.bound.1 (by rcases hd with hd | hd <;> simp [hd])
    simpa using this
  refine ⟨?_, fun k hk => ⟨hlaw k hk, ?_⟩, ?_, h.only, fun _ => hmap, fun _ => by simp [hmap], fun _ => h.unused hd,
    fun w hw hwd => absurd hwd ((h.unused hd).1 w hw)⟩
  · rcases hv with ⟨rfl, rfl⟩ | ⟨rfl, ho⟩
    · simp
    · simpa using Option.isSome_iff_ne_none.1 ho
  · simp [dirtyCount_eq, hmap]
  · rcases hv with ⟨rfl, -⟩ | ⟨rfl, -⟩ <;> simp [hbound]

theorem takenTimeout_law (n : Nat) :
    100 ≤ takenTimeout n ∧ takenTimeout n ≤ 25500 ∧ takenTimeout n % 100 = 0 := by
  simp only [takenTimeout, clamp, stepDown]
  omega

theorem takenDescriptor_law (r : DescriptorRecord) (wp : Bool)
    (hsize : r.blockSize.toNat = 512 ∨ r.blockSize.toNat = 4096) : (takenDescriptor r wp).Law := by
  refine ⟨hsize, ?_, ?_, ?_, ?_, ?_⟩
  · simp only [takenDescriptor, clamp]
    omega
  · simp only [takenDescriptor, clamp]
    split <;> omega
  · simp only [takenDescriptor, clamp]
    split <;> omega
  · simp only [takenDescriptor]
    split
    · exact takenTimeout_law _
    · omega
  · simp only [takenDescriptor]
    split
    · exact takenTimeout_law _
    · omega

theorem drive_freeDrive : (freeDrive d s).drive d = { s.drive d with map := [] } := drive_modDrive _ _ _

theorem keeps_loadDescriptor {k : Descriptor} (hd : (s.drive d).state = .empty ∨ (s.drive d).state = .idle)
    (hk : k.Law) : Keeps s (loadDescriptor d k s) :=
  ((keeps_freeDrive hd).trans (keeps_describe (by rwa [drive_freeDrive]) (by rw [drive_freeDrive])
    (.inr ⟨rfl, rfl⟩) fun x hx => by
      obtain rfl : k = x := by simpa using hx
      exact hk)).trans keeps_raiseDrive

theorem keeps_unloadDescriptor (hd : (s.drive d).state = .idle) : Keeps s (unloadDescriptor d s) :=
  ((keeps_freeDrive (.inr hd)).trans (keeps_describe (by rw [drive_freeDrive]; exact .inr hd) (by rw [drive_freeDrive])
    (.inl ⟨rfl, rfl⟩) nofun)).trans keeps_raiseDrive

end Records

end Sys2Proof.Machine

/-! # The laws kept while a request is carried on, and while those who wait are served -/

namespace Sys2Proof.Machine

/-- No law reads a port. -/
theorem keeps_modPort {s : State} {c : Channel} (f : Port → Port) : Keeps s (modPort c f s) := .plain

theorem keeps_modRequest {s : State} {c : Channel} (f : Request → Request) : Keeps s (modRequest c f s) := by
  unfold modRequest
  exact keeps_modPort _

theorem keeps_setWait {s : State} {c : Channel} (w : Option Wait) : Keeps s (setWait c w s) := by
  unfold setWait
  exact keeps_modRequest _

/-- From `s` to `t` the laws carry over and every drive's binding stands. -/
structure Carries (s t : State) : Prop extends Keeps s t where
  binding : ∀ d, (t.drive d).bound = (s.drive d).bound

namespace Carries

variable {s t u : State} {c : Channel} {d : DriveNo} {i : Nat}

theorem refl (s : State) : Carries s s := ⟨.refl s, fun _ => rfl⟩

theorem trans (h : Carries s t) (h' : Carries t u) : Carries s u :=
  ⟨h.toKeeps.trans h'.toKeeps, fun d => (h'.binding d).trans (h.binding d)⟩

theorem isBound (h : Carries s t) (hd : (s.drive d).bound.isSome = true) : (t.drive d).bound.isSome = true := by
  rwa [h.binding]

theorem binding_of_drive {f : Drive → Drive} (hd : t.drives = (modDrive d f s).drives)
    (hf : (f (s.drive d)).bound = (s.drive d).bound) (e : DriveNo) : (t.drive e).bound = (s.drive e).bound := by
  rw [drive_of_drives hd]
  split
  next he => rw [he, hf]
  · rfl

/-- The drives but for one map as they were. -/
theorem ofMap (m : List CachePage) (hk : Keeps s t)
    (hd : t.drives = (modDrive d (fun x => { x with map := m }) s).drives) : Carries s t :=
  ⟨hk, binding_of_drive hd rfl⟩

theorem ofDrives (hk : Keeps s t) (hd : t.drives = s.drives := by rfl) : Carries s t :=
  ⟨hk, fun e => by rw [State.drive, hd, State.drive]⟩

theorem ofDirtyWaiters (l : Drive → List Waiter) :
    Carries s (modDrive d (fun x => { x with dirtyWaiters := l x }) s) :=
  ⟨keeps_driveQuiet ⟨rfl, rfl, rfl, rfl⟩, binding_of_drive (d := d) rfl rfl⟩

/-! ## A wait, a page served, a page placed -/

theorem setWait (w : Option Wait) : Carries s (setWait c w s) := .ofDrives (keeps_setWait w)

theorem thenWait (h : Carries s t) (w : Option Wait) : Carries s (Machine.setWait c w t) := h.trans (setWait w)

theorem servePage (k : Descriptor) (u : Cursor) (p : CachePage) : Carries s (servePage c k u p s) := .ofDrives (keeps_modPort _)

theorem placed (u : Cursor) : Carries s (placed c u s) := .ofDrives (keeps_modRequest _)

theorem complete (st : Completion) : Carries s (complete c st s) := .ofDrives (keeps_modPort _)

theorem joinPageWaiters (n : Need) : Carries s (joinPageWaiters c d i n s) := by
  unfold Machine.joinPageWaiters
  exact .thenWait (.ofDrives .quiet) _

theorem joinEntryWaiters : Carries s (joinEntryWaiters c d i s) := by
  unfold Machine.joinEntryWaiters
  exact .thenWait (.ofDrives .quiet) _

theorem joinDirtyWaiters : Carries s (joinDirtyWaiters c d i s) := by
  unfold Machine.joinDirtyWaiters
  exact .thenWait (.ofDirtyWaiters _) _

theorem joinWant : Carries s (joinWant c d i s) := by
  unfold Machine.joinWant
  split
  · exact .refl s
  · refine .thenWait (.ofDrives (.quiet (hwants := ?_))) _
    rw [List.map_map]
    refine List.map_congr_left fun w _ => ?_
    simp only [Function.comp_apply]
    split <;> rfl

/-! ## A want made, with readahead (R127, R128) -/

theorem createWant {ws : List Channel} (hd : (s.drive d).bound.isSome = true) (habsent : s.page d i = none)
    (hlen : s.wants.length < 32) (hcheck : s.poolCheck = true) : Carries s (createWant d i ws s) :=
  ⟨keeps_createWant hd habsent hlen hcheck, fun e => by
    rw [createWant_eq, ← bound_takePage (s := s)]
    exact binding_of_drive (s := takePage s) (d := d)
      (f := fun x => { x with map := mapPut ⟨i, .filling, []⟩ x.map }) rfl rfl e⟩

theorem readahead (n : Nat) (hd : (s.drive d).bound.isSome = true) : Carries s (readahead d n i s) := by
  induction n generalizing s i with
  | zero => exact .refl s
  | succ n ih =>
    unfold Machine.readahead
    split
    · exact .refl s
    · split
      · exact ih hd
      next habsent =>
        split
        next hroom =>
          obtain ⟨hlen, hcheck⟩ := Bool.and_eq_true_iff.1 hroom
          have hlen : s.wants.length + 5 ≤ 32 := of_decide_eq_true hlen
          have hmade := createWant (ws := []) hd (by simpa using habsent) (by omega) hcheck
          exact hmade.trans (ih (hmade.isBound hd))
        · exact .refl s

theorem demandWant (hd : (s.drive d).bound.isSome = true) (habsent : s.page d i = none) :
    Carries s (demandWant c d i s) := by
  unfold Machine.demandWant
  split
  · exact joinEntryWaiters
  next hlen =>
    split
    · exact joinPageWaiters _
    next hcheck =>
      simp only [Config.wantEntries, not_le] at hlen
      have hmade := (createWant (ws := [c]) hd habsent hlen (by simpa using hcheck)).thenWait (c := c)
        (some (.want (freeNumber (s.wants.map (·.number)) 33 s.wantCounter) s.uptime
          (s.deadline (s.descriptor d).fillTimeout)))
      exact hmade.trans (readahead _ (hmade.isBound hd))

/-! ## One page of a request (R126, R135) -/

theorem readStep {k : Descriptor} {u : Cursor} (hd : (s.drive d).bound.isSome = true) :
    Carries s (readStep c d k u s).1 := by
  unfold Machine.readStep
  split
  next habsent => exact demandWant hd habsent
  next p hp =>
    split
    · exact joinWant
    next hclean =>
      have hserved := servePage (s := s) (c := c) k u p
      exact hserved.trans (.ofDrives (keeps_touch (p := p) hp hclean))
    · exact servePage k u p

theorem writePage {k : Descriptor} {r : Request} {p : CachePage} {st : CacheState}
    (hd : (s.drive d).bound.isSome = true) (hp : s.page d (cursor k r).page = some p) (hhome : st.home = p.state.home)
    (hfill : p.state ≠ .filling) : Carries s (writePage c d k r (cursor k r) p st s) := by
  unfold Machine.writePage
  have hput := keeps_putPage_home hd hp (mapFind_some_index hp).1 (q := { p with
    state := st, data := splice ((cursor k r).offset * k.blockSize) (chunk k r (cursor k r)) p.data }) hhome hfill
    (length_written k r)
  exact .trans (.ofMap _ hput rfl) (placed (c := c) (cursor k r))

theorem convert {k : Descriptor} {r : Request} {p : CachePage} (hd : (s.drive d).bound.isSome = true)
    (hp : s.page d (cursor k r).page = some p) (hclean : p.state = .clean) (hroom : s.hasRoom d = true)
    (hcheck : s.poolCheck = true) : Carries s (s |> unlist d (cursor k r).page
      |> Machine.writePage c d k r (cursor k r) p .dirty |> queueSpill d (cursor k r).page) := by
  have hconverted := keeps_convert hd hp hclean (mapFind_some_index hp).1 (q := { p with
    state := .dirty, data := splice ((cursor k r).offset * k.blockSize) (chunk k r (cursor k r)) p.data }) rfl
    (length_written k r) hroom hcheck
  exact .trans (.ofMap (d := d) _ hconverted rfl) (placed (c := c) (cursor k r))

theorem placeDirty {k : Descriptor} {r : Request} (hd : (s.drive d).bound.isSome = true)
    (habsent : s.page d (cursor k r).page = none) (hroom : s.hasRoom d = true) (hcheck : s.poolCheck = true) :
    Carries s (s |> takePage |> putPage d ⟨(cursor k r).page, .dirty, padPage (chunk k r (cursor k r))⟩
      |> Machine.placed c (cursor k r) |> queueSpill d (cursor k r).page) := by
  have hput := keeps_placeDirty (q := ⟨(cursor k r).page, .dirty, padPage (chunk k r (cursor k r))⟩) hd habsent rfl
    (length_padPage (length_chunk_le k r)) hroom hcheck
  refine .trans ⟨hput, fun e => ?_⟩ (placed (c := c) (cursor k r))
  rw [← bound_takePage (s := s)]
  exact binding_of_drive (s := takePage s) (d := d)
    (f := fun x => { x with map := mapPut ⟨(cursor k r).page, .dirty, padPage (chunk k r (cursor k r))⟩ x.map }) rfl rfl e

theorem writeStep {k : Descriptor} {r : Request} (hd : (s.drive d).bound.isSome = true) :
    Carries s (writeStep c d k r (cursor k r) s).1 := by
  unfold Machine.writeStep
  split
  next p hp =>
    split
    next hst => exact writePage hd hp (by rw [hst]) (by simp [hst])
    next hst => exact writePage hd hp (by rw [hst]; rfl) (by simp [hst])
    next hst => exact writePage hd hp (by rw [hst]) (by simp [hst])
    · exact joinWant
    next hclean =>
      split
      · exact joinDirtyWaiters
      next hroom =>
        split
        · exact joinPageWaiters _
        next hcheck => exact convert hd hp hclean (by simpa using hroom) (by simpa using hcheck)
  next habsent =>
    split
    · split
      · exact joinDirtyWaiters
      next hroom =>
        split
        · exact joinPageWaiters _
        next hcheck => exact placeDirty hd habsent (by simpa using hroom) (by simpa using hcheck)
    · exact demandWant hd habsent

theorem pageStep {r : Request} (hd : (s.drive d).bound.isSome = true) : Carries s (pageStep c d r s).1 := by
  unfold Machine.pageStep
  dsimp only
  split
  · exact readStep hd
  · exact writeStep hd
  · exact .refl s

/-! ## A request carried on, and those served (R97, R134, R136) -/

theorem carryOn (n : Nat) (hd : (s.drive d).bound.isSome = true) : Carries s (carryOn c d n s) := by
  induction n generalizing s with
  | zero => exact .refl s
  | succ n ih =>
    unfold Machine.carryOn
    split
    · exact .refl s
    next r hr =>
      split
      · exact complete _
      · have hstep := pageStep (c := c) (r := r) hd
        dsimp only
        split
        · exact hstep.trans (ih (hstep.isBound hd))
        · exact hstep

theorem boundDrive_some (h : s.boundDrive c = some d) : (s.drive d).bound = some c := by
  simpa using List.find?_some h

theorem resumeRequest : Carries s (resumeRequest c s) := by
  unfold Machine.resumeRequest
  split
  next r d hr hd =>
    have hwait := setWait (s := s) (c := c) none
    exact hwait.trans (carryOn _ (hwait.isBound (by rw [boundDrive_some hd]; rfl)))
  · exact .refl s

theorem servePageWaiters (n : Nat) : Carries s (servePageWaiters n s) := by
  induction n generalizing s with
  | zero => exact .refl s
  | succ n ih =>
    unfold Machine.servePageWaiters
    split
    · exact .refl s
    · split
      · exact .trans (.trans (.ofDrives .quiet) resumeRequest) ih
      · exact .refl s

theorem servePages : Carries s (servePages s) := servePageWaiters _

theorem serveEntryWaiters (n : Nat) : Carries s (serveEntryWaiters n s) := by
  induction n generalizing s with
  | zero => exact .refl s
  | succ n ih =>
    unfold Machine.serveEntryWaiters
    split
    · exact .refl s
    · split
      · exact .trans (.trans (.ofDrives .quiet) resumeRequest) ih
      · exact .refl s

theorem serveEntries : Carries s (serveEntries s) := serveEntryWaiters _

theorem serveDirtyWaiters (n : Nat) : Carries s (serveDirtyWaiters d n s) := by
  induction n generalizing s with
  | zero => exact .refl s
  | succ n ih =>
    unfold Machine.serveDirtyWaiters
    split
    · exact .refl s
    · split
      · exact .trans (.trans (.ofDirtyWaiters _) resumeRequest) ih
      · exact .refl s

theorem serveDirty : Carries s (serveDirty d s) := serveDirtyWaiters _

end Carries

end Sys2Proof.Machine

/-! # The laws kept by wants and spills that end, by the media and by the server's requests -/

namespace Sys2Proof.Machine

section Media

variable {s t : State} {c : Channel} {d : DriveNo}

/-! ## A request ended -/

theorem keeps_withdraw : Keeps s (withdraw c s) := by
  refine .quiet (hd := fun e => ?_) (hwants := ?_)
  · unfold withdraw
    rw [State.drive, State.drive, Table.get_map]
    exact ⟨rfl, rfl, rfl, rfl⟩
  · unfold withdraw
    rw [List.map_map]
    rfl

theorem keeps_endRequest {st : Completion} : Keeps s (endRequest c st s) := keeps_withdraw.trans (keeps_modPort _)

theorem keeps_complete {st : Completion} : Keeps s (complete c st s) := Carries.complete st |>.toKeeps

theorem keeps_servePages : Keeps s (servePages s) := Carries.servePages.toKeeps

theorem keeps_serveEntries : Keeps s (serveEntries s) := Carries.serveEntries.toKeeps

/-! ## Wants and spills that end (R131 to R133, R142) -/

theorem keeps_failWant {w : Want} {st : Completion} (hw : w ∈ s.wants) : Keeps s (failWant w st s) :=
  ((((keeps_fail hw).trans (.foldl (fun _ _ _ => keeps_endRequest) _)).trans keeps_testDrain).trans
    keeps_servePages).trans keeps_serveEntries

theorem keeps_fillWant {w : Want} {data : List Byte} (hw : w ∈ s.wants)
    (hdata : data.length = w.valid * (s.descriptor w.drive).blockSize) : Keeps s (fillWant w data s) := by
  have hfit (hs : s.CacheLaws) : data.length ≤ 4096 := by
    obtain ⟨-, -, -, -, -, -, -, hvalid⟩ := hs.2.2 w.drive
    rw [hdata, hvalid w hw rfl]
    exact valid_mul_le _ _
  exact ((((keeps_fill hw hfit).trans keeps_testDrain).trans keeps_servePages).trans keeps_serveEntries).trans
    (.foldl (fun _ _ _ => Carries.resumeRequest.toKeeps) _)

theorem keeps_testSync : Keeps s (testSync d s) := by
  unfold testSync
  split
  · exact .refl s
  · split
    · exact .refl s
    · split
      · split
        · exact keeps_complete
        · exact .refl s
      · exact .refl s

theorem keeps_afterSpill {stored : Bool} : Keeps s (afterSpill d stored s) := by
  have hpages : Keeps s (if stored then servePages s else s) := by
    split
    · exact keeps_servePages
    · exact .refl s
  exact ((hpages.trans Carries.serveDirty.toKeeps).trans keeps_testSync).trans keeps_testDrain

theorem keeps_advanceTo (n : Nat) : Keeps s (s.advanceTo n) := .quiet

/-! ## Posted wants dropped (R107) -/

/-- What dropping a list of wants of one drive leaves of the state. -/
theorem dropWants_eq (l : List Want) : ∃ drives, l.foldl (fun s w => s |> dropPage d w.page |> removeWant w.number) s =
    { s with drives := drives, wants := s.wants.filter fun v => !l.any fun w => v.number = w.number } := by
  induction l generalizing s with
  | nil => exact ⟨s.drives, by simp⟩
  | cons w l ih =>
    obtain ⟨drives, h⟩ := ih (s := s |> dropPage d w.page |> removeWant w.number)
    refine ⟨drives, h.trans ?_⟩
    simp only [removeWant, dropPage, modDrive, List.filter_filter, List.any_cons, State.mk.injEq, true_and, and_true]
    refine List.filter_congr fun v _ => ?_
    by_cases hv : v.number = w.number <;> simp [hv]

theorem keeps_dropWants {l : List Want} (hs : s.CacheLaws) (hl : ∀ w ∈ l, w ∈ s.wants ∧ w.drive = d)
    (hnodup : (l.map (·.number)).Nodup) :
    Keeps s (l.foldl (fun s w => s |> dropPage d w.page |> removeWant w.number) s) := by
  induction l generalizing s with
  | nil => exact .refl s
  | cons w l ih =>
    obtain ⟨hw, rfl⟩ := hl w List.mem_cons_self
    have hfail := keeps_fail hw
    obtain ⟨hnew, hrest⟩ := List.nodup_cons.1 hnodup
    refine hfail.trans (ih (hfail.cache hs) (fun v hv => ?_) hrest)
    obtain ⟨hmem, hdrive⟩ := hl v (List.mem_cons_of_mem _ hv)
    refine ⟨List.mem_filter.2 ⟨hmem, decide_eq_true fun h => hnew ?_⟩, hdrive⟩
    exact List.mem_map.2 ⟨v, hv, h⟩

theorem keeps_dropPosted : Keeps s (dropPosted d s) := by
  unfold dropPosted
  by_cases hs : s.CacheLaws
  · refine keeps_dropWants hs (fun w hw => ?_) (hs.1.2.2.1.sublist ((List.filter_sublist).map _))
    obtain ⟨hmem, hposted⟩ := List.mem_filter.1 hw
    exact ⟨hmem, of_decide_eq_true (Bool.and_eq_true_iff.1 hposted).1⟩
  · obtain ⟨drives, h⟩ := dropWants_eq (s := s) (d := d) (s.wants.filter fun w => w.drive = d && !w.taken)
    rw [h]
    exact .of_channels rfl rfl (fun htables => tablesFit_filter (q := fun _ => true) htables rfl (by simp))
      (absurd · hs) (absurd · hs)

/-! ## Bound, asked and drained (R105 to R107) -/

theorem keeps_enterDraining {own : Bool} {why : OutReason} : Keeps s (enterDraining own d why s) := by
  unfold enterDraining
  split
  · exact .refl s
  next c hc =>
    have hunbind : Keeps s (unbind d c s) := by
      refine .trans ?_ (keeps_modPort _)
      exact keeps_unbound hc ⟨rfl, rfl, rfl, rfl⟩
    have hended (t : State) : Keeps t ((if own then id else endRequest c .noMedium) t) := by
      split
      · exact .refl t
      · exact keeps_endRequest
    exact ((((((hunbind.trans (hended _)).trans keeps_dropPosted).thenMark _ _).trans keeps_raiseDrive).trans
      keeps_testDrain).trans keeps_servePages).trans keeps_serveEntries

theorem keeps_moved {f : Drive → Drive} (hb : (s.drive d).bound.isSome = true)
    (hmap : (f (s.drive d)).map = (s.drive d).map) (hdesc : (f (s.drive d)).descriptor = (s.drive d).descriptor)
    (hbound : (f (s.drive d)).bound = (s.drive d).bound)
    (hstate : (f (s.drive d)).state = .inserted ∨ (f (s.drive d)).state = .present ∨ (f (s.drive d)).state = .ejectWait) :
    Keeps s (modDrive d f s) :=
  keeps_record hmap fun hs =>
    have hfits := hs.2.2.fits d
    hfits.moved hdesc hmap hbound (hfits.bound.1 hb) hstate

/-- A drive that is INSERTED, PRESENT or in EJECT_WAIT is asked for. -/
theorem keeps_asked (hstate : (s.drive d).state = .inserted ∨ (s.drive d).state = .present ∨
    (s.drive d).state = .ejectWait) :
    Keeps s (modDrive d (fun x => { x with ejectRequested := true, state := .ejectWait }) s) :=
  keeps_record rfl fun hs => (hs.2.2.fits d).moved rfl rfl rfl hstate (.inr (.inr rfl))

theorem keeps_ejectDrive {force : Bool} {why : OutReason} (h : ejectDrive d force why s = some t) : Keeps s t := by
  have hin (hstate : (s.drive d).state = .inserted ∨ (s.drive d).state = .present ∨ (s.drive d).state = .ejectWait) :
      Keeps s (if !s.lockOf d then enterDraining false d why s
        else if force then enterDraining false d .forced s
        else s |> modDrive d (fun x => { x with ejectRequested := true, state := .ejectWait }) |> raiseDrive d) := by
    split
    · exact keeps_enterDraining
    · split
      · exact keeps_enterDraining
      · exact (keeps_asked hstate).trans keeps_raiseDrive
  unfold ejectDrive at h
  dsimp only at h
  split at h
  next hst =>
    obtain rfl := Option.some.inj h
    exact hin (.inl hst)
  next hst =>
    obtain rfl := Option.some.inj h
    exact hin (.inr (.inl hst))
  next hst =>
    obtain rfl := Option.some.inj h
    split
    · exact keeps_enterDraining
    · exact keeps_asked (.inr (.inr hst))
  · cases h

theorem keeps_raise {k : ChannelFlag} : Keeps s (raise c k s) := .plain

theorem keeps_setPortState {v : PortState} : Keeps s (setPortState c v s) := (keeps_modPort _).trans keeps_raise

theorem keeps_enterConfigured : Keeps s (enterConfigured c s) := keeps_setPortState.trans (keeps_modPort _)

theorem boundDrive_eq_none : s.boundDrive c = none ↔ ∀ e, (s.drive e).bound ≠ some c := by
  simp [State.boundDrive]

theorem keeps_wakePort : Keeps s (wakePort c s) := by
  unfold wakePort
  split
  · exact keeps_enterConfigured
  · exact .refl s

theorem keeps_insertDrive (h : insertRefusal d c s = none) : Keeps s (insertDrive d c s) := by
  unfold insertRefusal at h
  split at h
  · cases h
  next hidle =>
    split at h
    · cases h
    next hfree =>
      have hbind : Keeps s _ := keeps_bind (c := c) (f := fun x =>
        { x with state := .inserted, bound := some c, changeOwed := true, ejectRequested := false })
        (by simpa using hidle) (boundDrive_eq_none.1 (by simpa using hfree)) ⟨rfl, rfl, rfl, rfl⟩
      refine .trans ((hbind.thenMark _ _).trans keeps_raiseDrive) (keeps_wakePort (c := c))

/-! ## The port (R111 to R113) -/

theorem keeps_reflagEject : Keeps s (reflagEject c s) := by
  unfold reflagEject
  split
  · exact .refl _
  · exact keeps_driveQuiet ⟨rfl, rfl, rfl, rfl⟩

theorem keeps_leaveBus : Keeps s (leaveBus c s) := (keeps_withdraw.trans (keeps_modPort _)).trans keeps_reflagEject

theorem keeps_dropBus {v : PortState} : Keeps s (dropBus c v s) := by
  unfold dropBus
  split
  · exact keeps_setPortState.trans keeps_leaveBus
  · exact keeps_setPortState

theorem keeps_setPresence {on : Bool} : Keeps s (setPresence c on s) := by
  unfold setPresence
  dsimp only
  split <;> split
  · exact (keeps_modPort _).trans keeps_setPortState
  · exact keeps_modPort _
  · exact keeps_modPort _
  · exact (keeps_modPort _).trans keeps_dropBus

theorem keeps_actOnVbus : Keeps s (actOnVbus c s) := by
  unfold actOnVbus
  dsimp only
  split <;> split
  · exact keeps_setPortState
  · exact .refl s
  · exact keeps_dropBus
  · exact .refl s

/-! ## The server's requests (R114 to R121) -/

theorem keeps_examine {act : DriveNo → State → State}
    (hact : ∀ d s, (s.drive d).bound.isSome = true → Keeps s (act d s)) : Keeps s (examine c act s) := by
  unfold examine
  split
  · exact keeps_complete
  next d hd =>
    have hb : (s.drive d).bound.isSome = true := by
      rw [Carries.boundDrive_some hd]
      rfl
    split
    · exact ((keeps_moved hb rfl rfl rfl (.inr (.inl rfl))).trans keeps_raiseDrive).trans keeps_complete
    · split
      · exact (keeps_driveQuiet ⟨rfl, rfl, rfl, rfl⟩).trans keeps_complete
      · exact hact d s hb

theorem keeps_serverRequest {r : Request} {act : DriveNo → State → State}
    (hact : ∀ d s, (s.drive d).bound.isSome = true → Keeps s (act d s)) : Keeps s (serverRequest c r act s) := by
  unfold serverRequest
  split
  · exact (keeps_modPort _).trans (keeps_examine hact)
  · exact .refl s

theorem keeps_readRequest {lba count : Nat} (hd : (s.drive d).bound.isSome = true) :
    Keeps s (readRequest c lba count d s) := by
  unfold readRequest
  split
  · exact keeps_complete
  · split
    · exact keeps_complete
    · exact (Carries.carryOn _ hd).toKeeps

theorem keeps_writeRequest {lba count : Nat} (hd : (s.drive d).bound.isSome = true) :
    Keeps s (writeRequest c lba count d s) := by
  unfold writeRequest
  split
  · exact keeps_complete
  · split
    · exact keeps_complete
    · exact (Carries.carryOn _ hd).toKeeps

theorem keeps_lockRequest {on : Bool} : Keeps s (lockRequest c on d s) := by
  unfold lockRequest
  refine .trans ?_ keeps_complete
  split
  · exact (keeps_modPort _).trans keeps_enterDraining
  · exact keeps_modPort _

theorem keeps_ejectRequest : Keeps s (ejectRequest c d s) := by
  unfold ejectRequest
  split
  · exact keeps_complete
  · exact (keeps_enterDraining.trans keeps_raiseServerEject).trans keeps_complete

theorem keeps_syncRequest : Keeps s (syncRequest c d s) := by
  unfold syncRequest
  split
  · exact keeps_complete
  · exact keeps_setWait _

theorem keeps_capacityRequest : Keeps s (capacityRequest c d s) := (keeps_modPort _).trans keeps_complete

theorem keeps_expireWait {n : Nat} : Keeps s (expireWait c n s) := (keeps_advanceTo n).trans keeps_endRequest

end Media

end Sys2Proof.Machine

/-! # The laws kept by the blocks of a channel: power, finder, watch and transmitter -/

namespace Sys2Proof.Machine

section Blocks

variable {s t : State} {c : Channel}

/-! ## Blocks that no law reads -/

theorem keeps_modPower (f : Power → Power) : Keeps s (modPower c f s) := .plain

theorem keeps_modFinder (f : Finder → Finder) : Keeps s (modFinder c f s) := .plain

theorem keeps_modWatch (f : Watch → Watch) : Keeps s (modWatch c f s) := .plain

theorem keeps_setFraming (v : Framing) : Keeps s (setFraming c v s) := .plain

theorem keeps_modUnit (u : UnitNo) (f : MatchUnit → MatchUnit) : Keeps s (modUnit c u f s) := .plain

theorem keeps_modSlot (i : SlotNo) (f : TriggerSlot → TriggerSlot) : Keeps s (modSlot c i f s) := .plain

theorem keeps_marker {k : MarkerKind} {a : Nat} : Keeps s (marker c k a s) := .mark k a

/-- A transmitter changed, with no longer queue and its mark of an end as it was. -/
theorem keeps_modTx (f : Transmitter → Transmitter)
    (hqueue : (f (s.chan c).tx).queue.length ≤ (s.chan c).tx.queue.length ∨ (f (s.chan c).tx).queue.length ≤ 512)
    (hsettling : (f (s.chan c).tx).settling = (s.chan c).tx.settling) : Keeps s (modTx c f s) :=
  .chan ⟨⟨fun _ => rfl, rfl, id, id, fun h => hqueue.elim (·.trans h) id⟩, id, hsettling.symm.trans⟩

theorem keeps_modTx_slot (f : Transmitter → Option KeySlot) : Keeps s (modTx c (fun t => { t with slot := f t }) s) :=
  keeps_modTx _ (.inl le_rfl) rfl

/-! ## The finder and the watch (chapter 2) -/

theorem keeps_resetProgress : Keeps s (resetProgress c s) := .plain

theorem keeps_lockAt {r : RateIx} : Keeps s (lockAt c r s) :=
  (((keeps_modFinder _).trans keeps_marker).trans keeps_raise).trans keeps_resetProgress

theorem keeps_loseLock : Keeps s (loseLock c s) :=
  (((keeps_modFinder _).trans keeps_marker).trans keeps_raise).trans keeps_resetProgress

theorem keeps_huntingEnd {v : Verdict} : Keeps s (huntingEnd c v s) := by
  unfold huntingEnd
  split
  · exact keeps_modFinder _
  · dsimp only
    split
    all_goals
      split
      · exact (keeps_modFinder _).trans keeps_lockAt
      · exact keeps_modFinder _
  · exact .refl s

theorem keeps_lockedEnd {v : Verdict} : Keeps s (lockedEnd c v s) := by
  unfold lockedEnd
  dsimp only
  split
  · exact keeps_loseLock
  · exact .refl s

theorem keeps_baudWindow : Keeps s (baudWindow c s) := by
  unfold baudWindow
  refine .trans ?_ (keeps_modFinder _)
  split
  · exact keeps_huntingEnd
  · exact keeps_lockedEnd
  · exact .refl s

theorem keeps_relearn : Keeps s (relearn c s) := by
  unfold relearn
  split
  · exact keeps_modFinder _
  · exact keeps_loseLock.trans (keeps_modFinder _)
  · exact .refl s

theorem keeps_powerUpSignal : Keeps s (powerUpSignal c s) := by
  unfold powerUpSignal
  split
  · exact keeps_relearn
  · exact .refl s

theorem keeps_surviveEdge {n : Nat} : Keeps s (surviveEdge c n s) := (keeps_modFinder _).trans (keeps_setFraming _)

theorem keeps_countFraming : Keeps s (countFraming c s) := by
  unfold countFraming
  exact keeps_modFinder _

theorem keeps_openWatchGate : Keeps s (openWatchGate c s) := by
  unfold openWatchGate
  split
  · exact keeps_modWatch _
  · exact .refl s

theorem keeps_closeWatchGate : Keeps s (closeWatchGate c s) := by
  unfold closeWatchGate
  exact keeps_modWatch _

/-! ## The transmitter (chapter 4) -/

/-- A choice sent leaves no more bytes queued. -/
theorem length_queue_arbitrate (now divisor : Nat) (x : Transmitter) :
    (x.arbitrate now divisor).queue.length ≤ x.queue.length := by
  unfold Transmitter.arbitrate
  split
  · exact le_rfl
  · split
    · exact le_rfl
    next y _ =>
      split
      · exact le_rfl
      · cases y with
        | queued b => simp [Transmitter.send]
        | passByte b => exact le_rfl
        | duePass b => exact le_rfl

theorem keeps_arbitrate : Keeps s (arbitrate c s) := by
  unfold arbitrate
  split
  · exact keeps_modTx _ (.inl (length_queue_arbitrate _ _ _)) (arbitrate_settling _ _ _)
  · exact .refl s

theorem keeps_settleEnd {f : State → State} (h : ∀ s, Keeps s (f s)) : Keeps s (settleEnd c f s) :=
  (Keeps.settling h).trans keeps_arbitrate

theorem keeps_installKeys {k : KeyNo} {n : Nat} {l : List Byte} : Keeps s (installKeys c k n l s) :=
  (keeps_modTx_slot _).trans keeps_arbitrate

theorem keeps_emptySlot : Keeps s (emptySlot c s) := (keeps_modTx_slot _).trans keeps_arbitrate

theorem keeps_requestBreak {o : Origin} {n : Nat} : Keeps s (requestBreak c o n s) :=
  (keeps_modTx _ (.inl le_rfl) rfl).trans keeps_arbitrate

theorem keeps_endBreak {n : Nat} : Keeps s (endBreak c n s) := (keeps_modTx _ (.inl le_rfl) rfl).trans keeps_marker

theorem keeps_flushQueue : Keeps s (flushQueue c s) := by
  unfold flushQueue
  dsimp only
  split
  · exact .refl s
  · exact (keeps_modTx _ (.inl (Nat.zero_le _)) rfl).trans keeps_marker

theorem keeps_stall : Keeps s (stall c s) :=
  (((keeps_flushQueue.trans (keeps_modTx_slot _)).trans keeps_raise).trans (keeps_modTx _ (.inl le_rfl) rfl)).trans
    keeps_arbitrate

theorem keeps_openTxGate : Keeps s (openTxGate c s) := (keeps_modTx_slot _).trans keeps_arbitrate

theorem keeps_gateBreak {tell : State → State} (h : ∀ s, Keeps s (tell s)) : Keeps s (gateBreak tell c s) := by
  unfold gateBreak
  split
  · exact .refl s
  · dsimp only
    split
    · exact keeps_endBreak.trans (h _)
    · exact keeps_endBreak

theorem keeps_closeTxGate {tell : State → State} (h : ∀ s, Keeps s (tell s)) : Keeps s (closeTxGate tell c s) := by
  unfold closeTxGate
  dsimp only
  refine .trans ?_ (keeps_modTx _ (.inl le_rfl) rfl)
  exact ((keeps_modTx _ (.inl le_rfl) rfl).trans keeps_flushQueue).trans (keeps_gateBreak h)

/-! ## The Power Controller (chapter 1) -/

theorem keeps_endPulse {l : Line} {n : Nat} : Keeps s (endPulse c l n s) :=
  ((keeps_modPower _).trans keeps_marker).trans (keeps_modPower _)

theorem keeps_cutShort {l : Line} {p : Origin → Bool} : Keeps s (cutShort c l p s) := by
  unfold cutShort
  split
  · exact .refl s
  · split
    · exact keeps_endPulse
    · exact .refl s

theorem keeps_startPulse {l : Line} {o : Origin} {n : Nat} : Keeps s (startPulse c l o n s) := keeps_modPower _

theorem keeps_leaveOn {tell : State → State} (h : ∀ s, Keeps s (tell s)) {cause : OffCause} :
    Keeps s (leaveOn tell c cause s) :=
  (((keeps_raise.trans keeps_marker).trans (keeps_modPower _)).trans keeps_closeWatchGate).trans (keeps_closeTxGate h)

theorem keeps_enterOn : Keeps s (enterOn c s) :=
  (((((keeps_modPower _).trans keeps_marker).trans keeps_raise).trans keeps_openWatchGate).trans
    keeps_powerUpSignal).trans keeps_openTxGate

theorem keeps_releasePen : Keeps s (releasePen c s) := (keeps_modPower _).trans keeps_marker

theorem keeps_cutPower : Keeps s (cutPower c s) := by
  unfold cutPower
  split
  · exact keeps_releasePen.trans keeps_raise
  · exact keeps_releasePen.trans (keeps_leaveOn .refl)
  · exact keeps_modPower _
  · exact .refl s

theorem keeps_assertPen : Keeps s (assertPen c s) := ((keeps_modPower _).trans keeps_marker).trans keeps_raise

theorem keeps_supplyPower : Keeps s (supplyPower c s) := by
  unfold supplyPower
  split
  · exact keeps_assertPen
  · exact keeps_modPower _
  · exact .refl s

end Blocks

end Sys2Proof.Machine

/-! # The laws kept by the stores, the runs and the triggers -/

namespace Sys2Proof.Machine

section Runs

variable {s t u : State} {c : Channel}

/-! ## The laws kept but for the run of one channel -/

/-- From `s` to `t` the laws carry over, but perhaps that of one channel's run. -/
structure KeepsBut (c : Channel) (s t : State) : Prop extends KeepsBounds s t where
  others : ∀ c' ≠ c, RunHolds (s.run c') → RunHolds (t.run c')
  settled : ∀ c, (t.chan c).tx.settling = true → (s.chan c).tx.settling = true

theorem Keeps.but (h : Keeps s t) : KeepsBut c s t := ⟨h.toKeepsBounds, fun c' _ => h.runs c', h.settled⟩

theorem KeepsBut.trans (h : KeepsBut c s t) (h' : KeepsBut c t u) : KeepsBut c s u :=
  ⟨h.toKeepsBounds.trans h'.toKeepsBounds, fun c' hc => h'.others c' hc ∘ h.others c' hc,
    fun c' => h.settled c' ∘ h'.settled c'⟩

theorem KeepsBut.keeps (h : KeepsBut c s t) (hrun : RunHolds (s.run c) → RunHolds (t.run c)) : Keeps s t := by
  refine ⟨h.toKeepsBounds, fun c' => ?_, h.settled⟩
  by_cases hc : c' = c
  · subst hc
    exact hrun
  · exact h.others c' hc

/-- A context replaced. -/
theorem keepsBut_modContext (f : RunContext → RunContext) : KeepsBut c s (modContext c f s) := by
  rw [modContext_eq]
  refine ⟨Keeps.bounds_chan (.plain rfl rfl), fun c' hc => ?_, fun c' => ?_⟩
  · rw [State.run, State.run, chan_modChan_ne s c _ hc]
    exact id
  · exact Keeps.forall_chan_modChan (p := fun x y => y.tx.settling = true → x.tx.settling = true) id (fun _ => id) c'

@[simp] theorem run_modContext (f : RunContext → RunContext) : (modContext c f s).run c = (f (s.chan c).context).run := by
  simp [State.run]

@[simp] theorem run_setRun (r : Run) : (setRun c r s).run c = some r := run_modContext _

theorem keepsBut_setRun (r : Run) : KeepsBut c s (setRun c r s) := keepsBut_modContext _

/-! ## A run ended (R162) -/

theorem RunHolds.none : RunHolds none := nofun

theorem keeps_endRun {x : RunResult} : Keeps s (endRun c x s) := by
  have hclear : Keeps s (modContext c (fun k => { k with run := none }) s) :=
    (keepsBut_modContext _).keeps fun _ => by
      rw [run_modContext]
      exact .none
  unfold endRun
  dsimp only
  refine .trans ?_ ((keepsBut_modContext _).keeps fun h => ?_)
  · exact ((((hclear.trans keeps_cutShort).trans keeps_cutShort).trans keeps_emptySlot).trans keeps_marker).trans
      keeps_raise
  · rw [run_modContext]
    exact h

theorem run_endRun (x : RunResult) : (endRun c x s).run c = none :=
  congrArg RunContext.run (endRun_context s c x)

theorem keeps_consumeHit {u : UnitNo} : Keeps s (consumeHit c u s) := by
  unfold consumeHit
  exact keeps_modUnit u _

/-! ## A step taken (R150 to R159) -/

theorem keeps_act (r : Run) (x : RecipeStep) : Keeps s (act c r s x).1 := by
  have pulse (l : Line) (n : Nat) : Keeps s (pulseStep c l n s).1 := by
    unfold pulseStep
    split
    · exact .refl s
    · exact keeps_startPulse
  cases x with
  | pressButton n => exact pulse .button n
  | pulseReset n => exact pulse .reset n
  | cutPower => exact keeps_cutPower
  | supplyPower => exact keeps_supplyPower
  | waitPower on n =>
    simp only [act, waitPowerStep]
    split <;> exact .refl s
  | waitMatch u n =>
    simp only [act, waitMatchStep]
    repeat' split
    · exact .refl s
    · exact keeps_consumeHit
    · exact .refl s
  | armMatch u =>
    simp only [act, armStep]
    split
    · exact .refl s
    · exact keeps_modUnit u _
  | sendKeys k n =>
    simp only [act, sendKeysStep]
    split
    · exact .refl s
    · exact keeps_installKeys
  | stopKeys => exact keeps_emptySlot
  | relearnBaud => exact keeps_relearn
  | sendBreak n =>
    simp only [act, sendBreakStep]
    split
    · exact .refl s
    · exact keeps_requestBreak
  | insertMedia d =>
    simp only [act, insertStep]
    repeat' split
    · exact .refl s
    · exact .refl s
    next h => exact keeps_insertDrive h
  | ejectMedia d force =>
    simp only [act, ejectStep]
    repeat' split
    next h => exact keeps_ejectDrive h
    · exact .refl s
    · exact .refl s
  | waitActivity | waitQuiet | waitHeartbeat | delay | branch | call | ret | finish => exact .refl s

theorem keeps_takeStep (r : Run) : Keeps s (takeStep c r s).1 := by
  unfold takeStep
  split
  · exact .refl s
  · exact keeps_act r _

/-- BRANCH, CALL and RETURN leave a call stack of at most 4 entries (R158, R159). -/
theorem length_stack_takeStep {r r' : Run} (hr : r.stack.length ≤ 4) (h : (takeStep c r s).2 = .moves r') :
    r'.stack.length ≤ 4 := by
  have hret (pass : Bool) (h : returnStep pass r = .moves r') : r'.stack.length ≤ 4 := by
    unfold returnStep at h
    split at h
    · cases h
    · obtain rfl := Taken.moves.inj h
      simp only [List.length_dropLast]
      omega
  have hcall (k : RecipeNo) (h : callStep k r s = .moves r') : r'.stack.length ≤ 4 := by
    unfold callStep at h
    split at h
    · cases h
    · obtain rfl := Taken.moves.inj h
      dsimp only
      split
      · simp only [List.length_append, List.length_singleton]
        omega
      · simp only [List.length_append, List.length_tail, List.length_singleton]
        omega
  unfold takeStep at h
  split at h
  · exact hret false h
  next x _ =>
    cases x with
    | branch o n =>
      obtain rfl := Taken.moves.inj h
      exact hr
    | call k => exact hcall k h
    | ret pass => exact hret pass h
    | pressButton | pulseReset =>
      simp only [act, pulseStep] at h
      split at h <;> cases h
    | waitPower =>
      simp only [act, waitPowerStep] at h
      split at h <;> cases h
    | waitMatch =>
      simp only [act, waitMatchStep] at h
      repeat' split at h
      all_goals cases h
    | armMatch =>
      simp only [act, armStep] at h
      split at h <;> cases h
    | sendKeys =>
      simp only [act, sendKeysStep] at h
      repeat' split at h
      all_goals cases h
    | sendBreak =>
      simp only [act, sendBreakStep] at h
      split at h <;> cases h
    | insertMedia =>
      simp only [act, insertStep] at h
      repeat' split at h
      all_goals cases h
    | ejectMedia =>
      simp only [act, ejectStep] at h
      repeat' split at h
      all_goals cases h
    | cutPower | supplyPower | waitActivity | waitQuiet | waitHeartbeat | delay | stopKeys | relearnBaud | finish => cases h

/-! ## A run carried on (R149, R160) -/

/-- What a run that goes on leaves: the laws, its own from a call stack of at most 4 entries. -/
def RunsOn (c : Channel) (r : Run) (s t : State) : Prop :=
  KeepsBut c s t ∧ (r.stack.length ≤ 4 → RunHolds (t.run c))

theorem runsOn_settle {r : Run} {next : Run → State → State}
    (hnext : ∀ r t, RunsOn c r t (next r t)) : RunsOn c r s (settle c r next (takeStep c r s)) := by
  have hstep : KeepsBut c s (takeStep c r s).1 := (keeps_takeStep r).but
  unfold settle
  split
  next w n _ =>
    refine ⟨hstep.trans (keepsBut_setRun _), fun hr => ?_⟩
    rw [run_setRun]
    rintro _ ⟨⟩
    exact ⟨rfl, hr⟩
  · refine ⟨hstep.trans keeps_endRun.but, fun _ => ?_⟩
    rw [run_endRun]
    exact .none
  · exact ⟨hstep.trans (hnext _ _).1, fun hr => (hnext _ _).2 hr⟩
  next h => exact ⟨hstep.trans (hnext _ _).1, fun hr => (hnext _ _).2 (length_stack_takeStep hr h)⟩

theorem runsOn_runSteps (n : Nat) (r : Run) : RunsOn c r s (runSteps c n r s) := by
  induction n generalizing r s with
  | zero =>
    refine runsOn_settle fun r t => ⟨keeps_endRun.but, fun _ => ?_⟩
    rw [run_endRun]
    exact .none
  | succ n ih => exact runsOn_settle fun r t => ih { r with instants := r.instants + 1 }

theorem runsOn_goOn (r : Run) : RunsOn c r s (goOn c r s) :=
  ⟨(keepsBut_setRun r).trans (runsOn_runSteps _ r).1, (runsOn_runSteps _ r).2⟩

theorem keeps_startRun {k : RecipeNo} {o : RunSource} : Keeps s (startRun c k o s) := by
  unfold startRun
  dsimp only
  have hgo := runsOn_goOn (c := c) (s := marker c .runStart (k.val + 256 * o.code)
    (modContext c (fun _ => ⟨some ⟨k, 0, .none, none, none, 0, [], o, s.uptime⟩, .none, s.uptime⟩) s))
    ⟨k, 0, .none, none, none, 0, [], o, s.uptime⟩
  exact (((keepsBut_modContext _).trans keeps_marker.but).trans hgo.1).keeps fun _ => hgo.2 (Nat.zero_le 4)

theorem keeps_finishWait {o : StepOutcome} : Keeps s (finishWait c o s) := by
  unfold finishWait
  split
  · exact .refl s
  next r hr =>
    have hgo := runsOn_goOn (c := c) (s := s) { r with wait := none, deadline := none, outcome := o, step := r.step + 1 }
    exact hgo.1.keeps fun h => hgo.2 (h r hr).2

/-! ## A run told (R150 to R155) -/

/-- A waiting run whose wait is brought up to date. -/
theorem keeps_rewait {r : Run} (hr : s.run c = some r) (w : RunWait) :
    Keeps s (setRun c { r with wait := some w } s) :=
  (keepsBut_setRun _).keeps fun h => by
    rw [run_setRun]
    rintro _ ⟨⟩
    exact ⟨rfl, (h r hr).2⟩

theorem keeps_tellRun {e : RunEvent} : Keeps s (tellRun c e s) := by
  unfold tellRun
  split
  · exact .refl s
  next r hr =>
    have hite {p : Prop} [Decidable p] {o : StepOutcome} {s : State} : Keeps s (if p then finishWait c o s else s) := by
      split
      · exact keeps_finishWait
      · exact .refl s
    split
    · exact hite
    · exact hite
    · exact keeps_finishWait
    · exact keeps_finishWait
    · split
      · exact keeps_consumeHit.trans keeps_finishWait
      · exact .refl s
    · exact hite
    · unfold countByte
      split
      · exact keeps_finishWait
      · exact keeps_rewait hr _
    · exact keeps_rewait hr _
    · exact hite
    · exact .refl s

/-! ## Triggers and hits (R81, R166, R167) -/

theorem keeps_fire {i : SlotNo} {k : RecipeNo} : Keeps s (fire c i k s) := by
  unfold fire
  dsimp only
  refine .trans ?_ keeps_startRun
  split
  · exact (keeps_modSlot i _).trans keeps_raise
  · exact keeps_modSlot i _

theorem keeps_deliver {e : TriggerEvent} : Keeps s (deliver c e s) := by
  unfold deliver
  induction List.finRange 4 with
  | nil => exact .refl s
  | cons i l ih =>
    unfold examineSlots
    split
    · exact keeps_fire
    · exact ih

theorem keeps_afterHit {u : UnitNo} : Keeps s (afterHit c u s) :=
  ((keeps_marker.trans keeps_raise).trans keeps_tellRun).trans keeps_deliver

theorem keeps_watchByte {b : Byte} : Keeps s (watchByte c b s) :=
  .foldl (fun s u _ => by
    unfold unitSees
    dsimp only
    split
    · exact (keeps_modUnit u _).trans keeps_afterHit
    · exact keeps_modUnit u _) s

end Runs

end Sys2Proof.Machine

/-! # The laws kept by the capture stores: bytes captured, limits set, a channel reset -/

namespace Sys2Proof.Machine

/-! ## The pages of a store (R45) -/

/-- Pages in a row from a position, every one of them full. -/
def FullRow (o : Nat) (l : List CapturePage) : Prop :=
  ∀ (k : Nat) (p : CapturePage), l[k]? = some p → p.base = o + 4096 * k ∧ p.bytes.length = 4096

/-- Pages in a row from a position, every one but the last full: the form of R45. -/
def PageRow (o : Nat) (l : List CapturePage) : Prop :=
  ∀ (k : Nat) (p : CapturePage), l[k]? = some p →
    p.base = o + 4096 * k ∧ 1 ≤ p.bytes.length ∧ p.bytes.length ≤ 4096 ∧ (k + 1 < l.length → p.bytes.length = 4096)

/-- The bytes that pages hold. -/
def heldBytes (l : List CapturePage) : Nat := (l.map fun p => p.bytes.length).sum

section Rows

variable {o : Nat} {l : List CapturePage} {p : CapturePage} {b : Byte}

theorem fullRow_nil : FullRow o [] := nofun

theorem FullRow.heldBytes (h : FullRow o l) : heldBytes l = 4096 * l.length := by
  have hall : ∀ n ∈ l.map fun p => p.bytes.length, n = 4096 := by
    intro n hn
    obtain ⟨p, hp, rfl⟩ := List.mem_map.1 hn
    obtain ⟨k, hk⟩ := List.getElem?_of_mem hp
    exact (h k p hk).2
  rw [Machine.heldBytes, List.eq_replicate_of_mem hall, List.sum_replicate_nat, List.length_map, Nat.mul_comm]

theorem FullRow.tail (h : FullRow o l) : FullRow (o + 4096) l.tail := fun k p hp => by
  obtain ⟨hbase, hlen⟩ := h (k + 1) p (by rwa [List.getElem?_tail] at hp)
  exact ⟨by omega, hlen⟩

theorem pageRow_concat : PageRow o (l ++ [p]) ↔
    FullRow o l ∧ p.base = o + 4096 * l.length ∧ 1 ≤ p.bytes.length ∧ p.bytes.length ≤ 4096 := by
  constructor
  · intro h
    obtain ⟨hbase, hpos, hle, -⟩ := h l.length p (by simp)
    refine ⟨fun k q hq => ?_, hbase, hpos, hle⟩
    have hk := (List.getElem?_eq_some_iff.1 hq).1
    obtain ⟨hb, -, -, hfull⟩ := h k q (by rw [List.getElem?_append_left hk, hq])
    exact ⟨hb, hfull (by simp; omega)⟩
  · rintro ⟨hfull, hbase, hpos, hle⟩ k q hq
    by_cases hk : k < l.length
    · rw [List.getElem?_append_left hk] at hq
      obtain ⟨hb, hlen⟩ := hfull k q hq
      exact ⟨hb, by omega, by omega, fun _ => hlen⟩
    · obtain ⟨rfl, rfl⟩ : k = l.length ∧ p = q := by
        rw [List.getElem?_append_right (by omega)] at hq
        obtain ⟨hz, hq⟩ := List.getElem?_eq_some_iff.1 hq
        simp only [List.length_singleton] at hz
        exact ⟨by omega, by simpa [show k - l.length = 0 by omega] using hq⟩
      exact ⟨hbase, hpos, hle, fun hlt => by simp at hlt⟩

theorem heldBytes_concat : heldBytes (l ++ [p]) = heldBytes l + p.bytes.length := by simp [heldBytes]

theorem appendByte_concat : appendByte b (l ++ [p]) = l ++ [{ p with bytes := p.bytes ++ [b] }] := by
  induction l with
  | nil => rfl
  | cons q l ih =>
    cases l with
    | nil => rfl
    | cons r l => exact congrArg (List.cons q) ih

theorem PageRow.drop (n : Nat) (h : PageRow o l) : PageRow (o + n * 4096) (l.drop n) := fun k p hp => by
  obtain ⟨hbase, hpos, hle, hfull⟩ := h (n + k) p (by rwa [List.getElem?_drop] at hp)
  exact ⟨by omega, hpos, hle, fun hk => hfull (by rw [List.length_drop] at hk; omega)⟩

theorem PageRow.heldBytes_drop {n : Nat} (h : PageRow o l) (hn : n = 0 ∨ n < l.length) :
    heldBytes (l.drop n) + n * 4096 = heldBytes l := by
  have hsplit : heldBytes (l.take n) + heldBytes (l.drop n) = heldBytes l := by
    rw [heldBytes, heldBytes, ← List.sum_append_nat, ← List.map_append, List.take_append_drop, heldBytes]
  have hfull : FullRow o (l.take n) := fun k p hp => by
    have hk := (List.getElem?_eq_some_iff.1 hp).1
    rw [List.length_take] at hk
    rw [List.getElem?_take_of_lt (by omega)] at hp
    obtain ⟨hbase, -, -, hlen⟩ := h k p hp
    exact ⟨hbase, hlen (by omega)⟩
  have htake := hfull.heldBytes
  rw [List.length_take] at htake
  omega

end Rows

/-! ## A byte captured (R44 to R47) -/

section Captured

variable {st : Store} {b : Byte}

theorem needsPage_iff : st.needsPage = true ↔ st.pages = [] ∨ st.next % 4096 = 0 := by
  rw [Store.needsPage, Bool.or_eq_true, List.isEmpty_iff, decide_eq_true_eq]
  rfl

/-- Where a byte needs a page, every page held is full. -/
theorem Store.Law.fullRow (h : st.Law) (hn : st.needsPage = true) :
    FullRow st.oldest st.pages ∧ st.next = st.oldest + 4096 * st.pages.length := by
  obtain ⟨-, halign, hnext, -, hpages, -⟩ := h
  have hnext : st.next = st.oldest + heldBytes st.pages := hnext
  rcases List.eq_nil_or_concat st.pages with hnil | ⟨l, p, hp⟩
  · rw [hnil] at hnext ⊢
    exact ⟨fullRow_nil, hnext⟩
  · have hrow : PageRow st.oldest (l ++ [p]) := by
      have hpages : PageRow st.oldest st.pages := hpages
      rwa [hp, List.concat_eq_append] at hpages
    obtain ⟨hfull, hbase, hpos, hle⟩ := pageRow_concat.1 hrow
    rw [hp, List.concat_eq_append, heldBytes_concat, hfull.heldBytes] at hnext
    have hlen : p.bytes.length = 4096 := by
      have hmod := (needsPage_iff.1 hn).resolve_left (by rw [hp]; simp)
      omega
    rw [hp, List.concat_eq_append]
    refine ⟨fun k q hq => ?_, by rw [List.length_append, List.length_singleton]; omega⟩
    obtain ⟨hb, -, -, -⟩ := hrow k q hq
    refine ⟨hb, ?_⟩
    by_cases hk : k < l.length
    · rw [List.getElem?_append_left hk] at hq
      exact (hfull k q hq).2
    · rw [List.getElem?_append_right (by omega)] at hq
      obtain rfl : q = p := by simpa using List.mem_of_getElem? hq
      exact hlen

/-- A byte at the end of the newest page, which has room for it. -/
theorem Store.Law.append (h : st.Law) (hn : st.needsPage = false) (hend : st.next < Config.streamEnd) :
    ({ st with pages := appendByte b st.pages, next := st.next + 1 } : Store).Law ∧
      (appendByte b st.pages).length = st.pages.length := by
  obtain ⟨hlimits, halign, hnext, -, hpages, hmarkers, hrange, hsorted⟩ := h
  have hnext : st.next = st.oldest + heldBytes st.pages := hnext
  have hpages : PageRow st.oldest st.pages := hpages
  obtain ⟨hne, hmod⟩ : st.pages ≠ [] ∧ st.next % 4096 ≠ 0 := by
    rw [← Bool.not_eq_true, needsPage_iff] at hn
    exact not_or.1 hn
  obtain ⟨l, p, hp⟩ := (List.eq_nil_or_concat st.pages).resolve_left hne
  rw [hp, List.concat_eq_append] at hpages hnext
  obtain ⟨hfull, hbase, hpos, hle⟩ := pageRow_concat.1 hpages
  rw [heldBytes_concat, hfull.heldBytes] at hnext
  have happend : appendByte b st.pages = l ++ [{ p with bytes := p.bytes ++ [b] }] := by
    rw [hp, List.concat_eq_append, appendByte_concat]
  have hlength : (appendByte b st.pages).length = st.pages.length := by
    rw [happend, hp, List.concat_eq_append]
    simp
  refine ⟨⟨hlength ▸ hlimits, halign, ?_, ?_, ?_, hmarkers, fun m hm => ?_, hsorted⟩, hlength⟩
  · change st.next + 1 = st.oldest + heldBytes (appendByte b st.pages)
    rw [happend, heldBytes_concat, hfull.heldBytes, List.length_append, List.length_singleton]
    omega
  · simp only [Config.streamEnd] at hend ⊢
    omega
  · change PageRow st.oldest (appendByte b st.pages)
    rw [happend]
    exact pageRow_concat.2 ⟨hfull, hbase, by simp, by simp; omega⟩
  · exact ⟨(hrange m hm).1, Nat.le_succ_of_le (hrange m hm).2⟩

/-- A byte in a granted page of its own. -/
theorem Store.Law.grow (h : st.Law) (hn : st.needsPage = true) (hend : st.next < Config.streamEnd)
    (hroom : st.pages.length < st.ceiling) :
    ({ st.grow with pages := appendByte b st.grow.pages, next := st.next + 1 } : Store).Law := by
  obtain ⟨hfull, hnext⟩ := h.fullRow hn
  obtain ⟨⟨hlo, hhi, hfc, hc, -⟩, halign, -, -, -, hmarkers, hrange, hsorted⟩ := h
  have happend : appendByte b st.grow.pages = st.pages ++ [⟨st.next, [b]⟩] := appendByte_concat
  refine ⟨⟨hlo, hhi, hfc, hc, ?_⟩, halign, ?_, ?_, ?_, hmarkers, fun m hm => ?_, hsorted⟩
  · change (appendByte b st.grow.pages).length ≤ st.ceiling
    rw [happend, List.length_append, List.length_singleton]
    omega
  · change st.next + 1 = st.oldest + heldBytes (appendByte b st.grow.pages)
    rw [happend, heldBytes_concat, hfull.heldBytes, List.length_singleton]
    omega
  · simp only [Config.streamEnd] at hend ⊢
    omega
  · change PageRow st.oldest (appendByte b st.grow.pages)
    rw [happend]
    exact pageRow_concat.2 ⟨hfull, hnext, by simp, by simp⟩
  · exact ⟨(hrange m hm).1, Nat.le_succ_of_le (hrange m hm).2⟩

/-- Markers below an oldest position that rises dropped: those left lie between it and next. -/
theorem dropMarkers_law {ms : List Marker} {o o' n : Nat} (hlen : ms.length ≤ 64)
    (hrange : ∀ m ∈ ms, o ≤ m.position ∧ m.position ≤ n) (hsorted : (ms.map (·.position)).Pairwise (· ≤ ·)) :
    (ms.filter fun m => o' ≤ m.position).length ≤ 64 ∧
      (∀ m ∈ ms.filter fun m => o' ≤ m.position, o' ≤ m.position ∧ m.position ≤ n) ∧
      ((ms.filter fun m => o' ≤ m.position).map (·.position)).Pairwise (· ≤ ·) :=
  ⟨(List.length_filter_le _ _).trans hlen,
    fun m hm => ⟨of_decide_eq_true (List.mem_filter.1 hm).2, (hrange m (List.mem_filter.1 hm).1).2⟩,
    hsorted.sublist ((List.filter_sublist).map _)⟩

/-- A byte in the recycled oldest page. -/
theorem Store.Law.recycle (h : st.Law) (hn : st.needsPage = true) (hend : st.next < Config.streamEnd)
    (hheld : st.pages ≠ []) :
    ({ st.recycle with pages := appendByte b st.recycle.pages, next := st.next + 1 } : Store).Law ∧
      (appendByte b st.recycle.pages).length = st.pages.length := by
  obtain ⟨hfull, hnext⟩ := h.fullRow hn
  obtain ⟨⟨hlo, hhi, hfc, hc, hle⟩, halign, -, -, -, hmarkers, hrange, hsorted⟩ := h
  have hpos := List.length_pos_iff.2 hheld
  have happend : appendByte b st.recycle.pages = st.pages.tail ++ [⟨st.next, [b]⟩] := appendByte_concat
  have hlength : (appendByte b st.recycle.pages).length = st.pages.length := by
    rw [happend, List.length_append, List.length_tail, List.length_singleton]
    omega
  obtain ⟨hmlen, hmrange, hmsorted⟩ := dropMarkers_law (o' := st.oldest + 4096) hmarkers hrange hsorted
  refine ⟨⟨⟨hlo, hhi, hfc, hc, hlength ▸ hle⟩, ?_, ?_, ?_, ?_, hmlen, fun m hm => ?_, hmsorted⟩, hlength⟩
  · change (st.oldest + 4096) % 4096 = 0
    omega
  · change st.next + 1 = st.oldest + 4096 + heldBytes (appendByte b st.recycle.pages)
    rw [happend, heldBytes_concat, hfull.tail.heldBytes, List.length_tail, List.length_singleton]
    omega
  · simp only [Config.streamEnd] at hend ⊢
    omega
  · change PageRow (st.oldest + 4096) (appendByte b st.recycle.pages)
    rw [happend]
    refine pageRow_concat.2 ⟨hfull.tail, ?_, by simp, by simp⟩
    change st.next = st.oldest + 4096 + 4096 * st.pages.tail.length
    rw [List.length_tail]
    omega
  · exact ⟨(hmrange m hm).1, Nat.le_succ_of_le (hmrange m hm).2⟩

/-! ## Limits set (R48 to R50) -/

theorem Store.Law.limited (h : st.Law) {floor ceiling : Nat} (hfloor : 2 ≤ floor ∧ floor ≤ 32)
    (hceiling : floor ≤ ceiling ∧ ceiling ≤ 64) : (st.limited floor ceiling).Law := by
  obtain ⟨-, halign, hnext, hend, hpages, hmarkers, hrange, hsorted⟩ := h
  have hnext : st.next = st.oldest + heldBytes st.pages := hnext
  have hrow : PageRow st.oldest st.pages := hpages
  have hheld := hrow.heldBytes_drop (n := st.pages.length - ceiling) (by omega)
  obtain ⟨hmlen, hmrange, hmsorted⟩ :=
    dropMarkers_law (o' := st.oldest + (st.pages.length - ceiling) * 4096) hmarkers hrange hsorted
  refine ⟨⟨hfloor.1, hfloor.2, hceiling.1, hceiling.2, ?_⟩, ?_, ?_, hend, hrow.drop _, hmlen, hmrange, hmsorted⟩
  · change (st.pages.drop _).length ≤ ceiling
    rw [List.length_drop]
    omega
  · change (st.oldest + (st.pages.length - ceiling) * 4096) % 4096 = 0
    omega
  · change st.next = st.oldest + (st.pages.length - ceiling) * 4096 + heldBytes (st.pages.drop _)
    omega

/-- An emptied store keeps its limits (R58). -/
theorem Store.law_empty {floor ceiling : Nat} (hfloor : 2 ≤ floor ∧ floor ≤ 32)
    (hceiling : floor ≤ ceiling ∧ ceiling ≤ 64) : (Store.empty floor ceiling).Law :=
  ⟨⟨hfloor.1, hfloor.2, hceiling.1, hceiling.2, Nat.zero_le _⟩, rfl, rfl, by simp [Store.empty], nofun, Nat.zero_le _,
    nofun, List.Pairwise.nil⟩

end Captured

/-! ## The laws of the whole state -/

section Stores

variable {s t : State} {c : Channel}

/-- One channel's record changed, with the law of the pool shown apart. -/
theorem keeps_chan_pool {f : ChannelState → ChannelState} (hstore : (s.chan c).store.Law → (f (s.chan c)).store.Law)
    (hmarkers : (s.chan c).store.markers.length ≤ 64 → (f (s.chan c)).store.markers.length ≤ 64)
    (hqueue : (s.chan c).tx.queue.length ≤ 512 → (f (s.chan c)).tx.queue.length ≤ 512)
    (hrun : RunHolds (s.chan c).context.run → RunHolds (f (s.chan c)).context.run)
    (hsettling : (f (s.chan c)).tx.settling = true → (s.chan c).tx.settling = true)
    (hpool : s.CacheLaws → s.StoresLaw → s.PoolLaw → (modChan c f s).PoolLaw) : Keeps s (modChan c f s) := by
  refine ⟨⟨rfl, fun hs c' => ?_, id, fun hs c' => ?_, Keeps.cacheLaws_of_same (fun _ => ⟨rfl, rfl, rfl, rfl⟩) rfl rfl rfl rfl,
    hpool⟩, ?_, ?_⟩
  · exact Keeps.forall_chan_modChan (p := fun x y => x.store.markers.length ≤ 64 ∧ x.tx.queue.length ≤ 512 →
      y.store.markers.length ≤ 64 ∧ y.tx.queue.length ≤ 512) (And.imp hmarkers hqueue) (fun _ => id) c' (hs c')
  · exact Keeps.forall_chan_modChan (p := fun x y => x.store.Law → y.store.Law) hstore (fun _ => id) c' (hs c')
  · exact Keeps.forall_chan_modChan (p := fun x y => RunHolds x.context.run → RunHolds y.context.run) hrun fun _ => id
  · exact Keeps.forall_chan_modChan (p := fun x y => y.tx.settling = true → x.tx.settling = true) hsettling fun _ => id

theorem consolePages_modChan (f : ChannelState → ChannelState) :
    (modChan c f s).consolePages + (s.chan c).store.pages.length =
      s.consolePages + (f (s.chan c)).store.pages.length := sumChannels_modChan s c f _

theorem unmet_modChan (f : ChannelState → ChannelState) :
    (modChan c f s).unmet + (s.chan c).store.share = s.unmet + (f (s.chan c)).store.share := sumChannels_modChan s c f _

/-! ### A byte captured -/

/-- A byte in a page that the pool grants: below the floor that page is owed, above it the pool check has passed. -/
theorem keeps_granted {g : Store → Store} (hlaw : (s.chan c).store.Law → (g (s.chan c).store).Law)
    (hpages : (g (s.chan c).store).pages.length = (s.chan c).store.pages.length + 1)
    (hfloor : (g (s.chan c).store).floor = (s.chan c).store.floor)
    (hmarkers : (g (s.chan c).store).markers = (s.chan c).store.markers)
    (hgrant : grantsPage (s.chan c).store s = true) : Keeps s (modStore c g (takePage s)) := by
  have htake := keeps_takePage (s := s)
  have hchan : (takePage s).chan c = (s.chan c) := by rw [State.chan, takePage_channels, State.chan]
  rw [modStore_eq]
  refine ⟨⟨htake.link, fun hs c' => ?_, htake.tables, fun hs c' => ?_, fun hs => ?_, fun hs hstores hpool => ?_⟩,
    fun c' h => ?_, fun c' h => ?_⟩
  · refine Keeps.forall_chan_modChan (p := fun x y => x.store.markers.length ≤ 64 ∧ x.tx.queue.length ≤ 512 →
      y.store.markers.length ≤ 64 ∧ y.tx.queue.length ≤ 512) (fun h => ?_) (fun _ => id) c' (htake.consoles hs c')
    rw [hchan] at h ⊢
    exact ⟨hmarkers ▸ h.1, h.2⟩
  · refine Keeps.forall_chan_modChan (p := fun x y => x.store.Law → y.store.Law) (fun h => ?_) (fun _ => id) c'
      (htake.stores hs c')
    rw [hchan] at h ⊢
    exact hlaw h
  · exact Keeps.cacheLaws_of_same (fun _ => ⟨rfl, rfl, rfl, rfl⟩) rfl rfl rfl rfl (htake.cache hs)
  · have hconsole := consolePages_modChan (s := takePage s) (c := c) fun x => { x with store := g x.store }
    have hunmet := unmet_modChan (s := takePage s) (c := c) fun x => { x with store := g x.store }
    simp only [hchan, Store.share, hpages, hfloor, Keeps.consolePages_of_channels takePage_channels,
      Keeps.unmet_of_channels takePage_channels] at hconsole hunmet
    have hshare := le_sumChannels s c fun x => x.store.share
    change (s.chan c).store.floor - (s.chan c).store.pages.length ≤ s.unmet at hshare
    simp only [grantsPage, Bool.or_eq_true, Bool.and_eq_true, decide_eq_true_eq, poolCheck_iff] at hgrant
    rw [Keeps.poolLaw_iff] at hpool ⊢
    obtain ⟨hroom, hle, hcount⟩ := takePage_counts hs hpool.1 (by
      simp only [State.reclaimable, State.freePages, State.cleanPages, Config.poolPages]
      omega)
    change (modChan c _ (takePage s)).consolePages + (takePage s).cachePages ≤ 512 ∧ (modChan c _ (takePage s)).unmet ≤
      512 - ((modChan c _ (takePage s)).consolePages + (takePage s).cachePages) + (takePage s).cleanList.length
    omega
  · exact Keeps.forall_chan_modChan (p := fun x y => RunHolds x.context.run → RunHolds y.context.run) id (fun _ => id) c'
      (htake.runs c' h)
  · exact htake.settled c' (Keeps.forall_chan_modChan (p := fun x y => y.tx.settling = true → x.tx.settling = true) id
      (fun _ => id) c' h)

theorem keeps_captureByte {b : Byte} : Keeps s (captureByte c b s).1 := by
  unfold captureByte
  split
  next hend =>
    refine .trans ?_ keeps_raise
    unfold needPage
    dsimp only
    split
    next hn =>
      have hn : (s.chan c).store.needsPage = false := by simpa using hn
      rw [modStore_eq]
      exact .chan ⟨⟨fun h => (h.append hn hend).2, rfl, fun h => (h.append hn hend).1, id, id⟩, id, id⟩
    next hn =>
      have hn : (s.chan c).store.needsPage = true := by simpa using hn
      split
      next hgrant =>
        have hlaw (h : (s.chan c).store.Law) : ({ (s.chan c).store.grow with
            pages := appendByte b (s.chan c).store.grow.pages, next := (s.chan c).store.next + 1 } : Store).Law := by
          refine h.grow hn hend ?_
          obtain ⟨⟨-, -, hfc, -, -⟩, -⟩ := h
          simp only [grantsPage, Bool.or_eq_true, Bool.and_eq_true, decide_eq_true_eq] at hgrant
          omega
        have hmerge : modStore c (fun st => { st with pages := appendByte b st.pages, next := st.next + 1 })
            (modStore c Store.grow (takePage s)) = modStore c (fun st => { st.grow with
              pages := appendByte b st.grow.pages, next := st.next + 1 }) (takePage s) := by
          simp [Store.grow]
        refine hmerge ▸ keeps_granted hlaw ?_ rfl rfl hgrant
        change (appendByte b ((s.chan c).store.pages ++ [⟨(s.chan c).store.next, []⟩])).length = _
        rw [appendByte_concat, List.length_append, List.length_singleton]
      next hgrant =>
        have hheld (h : (s.chan c).store.Law) : (s.chan c).store.pages ≠ [] := fun hnil => by
          obtain ⟨⟨hlo, -⟩, -⟩ := h
          simp only [grantsPage, hnil, Bool.or_eq_true, decide_eq_true_eq, List.length_nil, not_or] at hgrant
          omega
        simp only [raise_eq, modStore_eq, modChan_modChan]
        exact .chan ⟨⟨fun h => (h.recycle hn hend (hheld h)).2, rfl, fun h => (h.recycle hn hend (hheld h)).1,
          fun h => (List.length_filter_le _ _).trans h, id⟩, id, id⟩
  · exact .refl s

theorem keeps_acceptByte {b : Byte} : Keeps s (acceptByte c b s) := by
  unfold acceptByte
  dsimp only
  split
  · exact (keeps_captureByte.trans keeps_watchByte).trans keeps_tellRun
  · exact keeps_captureByte.trans keeps_watchByte

/-! ### Limits set and a channel reset -/

/-- The record of a channel whose limits are set and whose oldest pages are shed. -/
def ChannelState.limited (floor ceiling : Nat) (x : ChannelState) : ChannelState :=
  { x with
    store := x.store.limited floor ceiling
    flags := if ceiling < x.store.pages.length then x.flags.set ChannelFlag.loss.index true else x.flags }

theorem setLimits_eq (floor ceiling : Nat) :
    setLimits c floor ceiling s = modChan c (ChannelState.limited floor ceiling) s := by
  have hrecord : (modChan c (ChannelState.limited floor ceiling) s) = s.putChan c ((s.chan c).limited floor ceiling) := rfl
  unfold setLimits
  dsimp only
  split
  next h => rw [hrecord, ChannelState.limited, if_pos h, raise_eq, modStore_eq, modChan_modChan, modChan_eq_putChan]
  next h => rw [hrecord, ChannelState.limited, if_neg h, modStore_eq, modChan_eq_putChan]

theorem keeps_setLimits {floor ceiling : Nat} (hfloor : 2 ≤ floor ∧ floor ≤ 32)
    (hceiling : floor ≤ ceiling ∧ ceiling ≤ 64)
    (hguarantee : (setLimits c floor ceiling s).unmet ≤ (setLimits c floor ceiling s).reclaimable) :
    Keeps s (setLimits c floor ceiling s) := by
  rw [setLimits_eq] at hguarantee ⊢
  refine keeps_chan_pool (fun h => h.limited hfloor hceiling) (fun h => (List.length_filter_le _ _).trans h) id id id
    fun _ _ hpool => ⟨?_, hguarantee⟩
  have hconsole := consolePages_modChan (s := s) (c := c) (ChannelState.limited floor ceiling)
  have hshed : ((s.chan c).limited floor ceiling).store.pages.length ≤ (s.chan c).store.pages.length := by
    change ((s.chan c).store.pages.drop _).length ≤ _
    rw [List.length_drop]
    omega
  have hfit := hpool.1
  have hcache : (modChan c (ChannelState.limited floor ceiling) s).cachePages = s.cachePages := rfl
  omega

theorem keeps_channelReset : Keeps s (channelReset c s) := by
  refine .trans ?_ keeps_servePages
  refine keeps_chan_pool (fun h => ?_) (fun _ => Nat.zero_le _) (fun _ => Nat.zero_le _) (fun _ => ?_) nofun
    fun _ _ hpool => ?_
  · obtain ⟨⟨hlo, hhi, hfc, hc, -⟩, -⟩ := h
    exact Store.law_empty ⟨hlo, hhi⟩ ⟨hfc, hc⟩
  · change RunHolds (RunContext.channelReset _ _).run
    unfold RunContext.channelReset
    split
    · exact .none
    next h => rw [Option.not_isSome_iff_eq_none.1 h]; exact .none
  · have hconsole := consolePages_modChan (s := s) (c := c) (ChannelState.channelReset s.now s.uptime)
    have hunmet := unmet_modChan (s := s) (c := c) (ChannelState.channelReset s.now s.uptime)
    simp only [ChannelState.channelReset, Store.empty, Store.share, List.length_nil] at hconsole hunmet
    rw [Keeps.poolLaw_iff] at hpool ⊢
    have hcache : (modChan c (ChannelState.channelReset s.now s.uptime) s).cachePages = s.cachePages := rfl
    rw [hcache, modChan_cleanList]
    omega

end Stores

end Sys2Proof.Machine

/-! # The laws kept by the owning rules of the host's requests -/

namespace Sys2Proof.Machine

section Rules

variable {s : State} {c : Channel} {b : Byte}

/-! ## Identifiers and choices -/

theorem keeps_onChannel {h : Channel → Handler} (hh : ∀ c s, Keeps s (h c s).1) : Keeps s (onChannel b h s).1 := by
  unfold onChannel
  split
  · exact .refl s
  · exact hh _ s

theorem keeps_onDrive {h : DriveNo → Handler} (hh : ∀ d s, Keeps s (h d s).1) : Keeps s (onDrive b h s).1 := by
  unfold onDrive
  split
  · exact .refl s
  · exact hh _ s

theorem keeps_onFlag {h : Bool → Handler} (hh : ∀ v s, Keeps s (h v s).1) : Keeps s (onFlag b h s).1 := by
  unfold onFlag
  split
  · exact .refl s
  · exact hh _ s

theorem keeps_onEight {h : Fin 8 → Handler} (hh : ∀ k s, Keeps s (h k s).1) : Keeps s (onEight b h s).1 := by
  unfold onEight
  split
  · exact .refl s
  · exact hh _ s

theorem keeps_onUnit {u : Byte} {h : Channel → UnitNo → Handler} (hh : ∀ c u s, Keeps s (h c u s).1) :
    Keeps s (onUnit b u h s).1 :=
  keeps_onChannel fun c s => by
    split
    · exact .refl s
    · exact hh c _ s

theorem keeps_onSlot {i : Byte} {h : Channel → SlotNo → Handler} (hh : ∀ c i s, Keeps s (h c i s).1) :
    Keeps s (onSlot b i h s).1 :=
  keeps_onChannel fun c s => by
    split
    · exact .refl s
    · exact hh c _ s

theorem keeps_powerGuard {h : Handler} (hh : ∀ s, Keeps s (h s).1) : Keeps s (powerGuard c h s).1 := by
  unfold powerGuard
  split
  · exact .refl s
  · split
    · exact .refl s
    · exact hh s

/-! ## Power and monitors -/

theorem keeps_hostCut : Keeps s (hostCut b s).1 :=
  keeps_onChannel fun _ _ => keeps_powerGuard fun _ => keeps_cutPower

theorem keeps_hostSupply : Keeps s (hostSupply b s).1 :=
  keeps_onChannel fun c _ => keeps_powerGuard fun s => by
    dsimp only
    split <;> exact keeps_supplyPower

theorem keeps_hostPulse {l : Line} {lo hi : Nat} {n : Half} : Keeps s (hostPulse l lo hi b n s).1 :=
  keeps_onChannel fun c _ => keeps_powerGuard fun s => by
    split
    · exact .refl s
    · exact keeps_startPulse

theorem keeps_qualifyPg : Keeps s (qualifyPg c s) := by
  have hlevel (f : Power → Power) (s : State) : Keeps s (modPower c f s) := keeps_modPower f
  have hdelivered {p : Prop} [Decidable p] (s : State) :
      Keeps s ((if p then deliver c .spontaneousOff else id) s) := by
    split
    · exact keeps_deliver
    · exact .refl s
  unfold qualifyPg
  dsimp only
  split
  · exact ((hlevel _ s).trans keeps_enterOn).trans keeps_tellRun
  · refine .trans (.trans ?_ (hdelivered _)) keeps_tellRun
    exact ((hlevel _ s).trans (hlevel _ _)).trans (keeps_leaveOn fun _ => keeps_tellRun)
  · exact hlevel _ s

theorem keeps_qualifyIfDue : Keeps s (qualifyIfDue c s) := by
  unfold qualifyIfDue
  split
  · exact .refl s
  · split
    · exact keeps_qualifyPg
    · exact .refl s

theorem keeps_hostSetPowerSettings {q m : Byte} : Keeps s (hostSetPowerSettings b q m s).1 :=
  keeps_onChannel fun _ _ => (keeps_modPower _).trans keeps_qualifyIfDue

theorem keeps_setMode {v : FinderState} {m n : Nat} : Keeps s (setMode c v m n s) :=
  (((keeps_modFinder _).trans keeps_raise).trans keeps_resetProgress).trans (keeps_modFinder _)

theorem keeps_hostSetBaudMode {m : Byte} {r : Quad} : Keeps s (hostSetBaudMode b m r s).1 :=
  keeps_onChannel fun c s => by
    split
    · unfold hostAuto
      dsimp only
      split
      · exact keeps_setMode
      · exact .refl s
    · split
      · exact keeps_setMode
      · exact .refl s

theorem keeps_hostSetBaudSettings {w : Half} {x y z v : Byte} :
    Keeps s (hostSetBaudSettings b w x y z v s).1 :=
  keeps_onChannel fun _ _ => keeps_onFlag fun _ _ => by
    dsimp only [done]
    exact keeps_modFinder _

theorem keeps_setWatch {x : WatchSettings} : Keeps s (setWatch c x s) := by
  unfold setWatch
  dsimp only
  split
  · exact (keeps_modWatch _).trans keeps_openWatchGate
  · split
    · exact (keeps_modWatch _).trans keeps_closeWatchGate
    · exact keeps_modWatch _

/-! ## Console and transmitter -/

theorem keeps_hostSetCaptureLimits {f l : Byte} : Keeps s (hostSetCaptureLimits b f l s).1 :=
  keeps_onChannel fun c s => by
    have hfloor : 2 ≤ clamp 2 32 f.toNat ∧ clamp 2 32 f.toNat ≤ 32 := by
      simp only [clamp]
      omega
    have hceiling : clamp 2 32 f.toNat ≤ clamp (clamp 2 32 f.toNat) 64 l.toNat ∧
        clamp (clamp 2 32 f.toNat) 64 l.toNat ≤ 64 := by
      simp only [clamp]
      omega
    dsimp only
    split
    next h => exact (keeps_setLimits hfloor hceiling h).trans keeps_servePages
    · exact .refl s

theorem keeps_hostSendConsole {l : List Byte} : Keeps s (hostSendConsole b l s).1 :=
  keeps_onChannel fun c s => by
    split
    · exact .refl s
    · refine .trans (keeps_modTx (fun t => { t with queue := t.queue ++ l.take _ }) ?_ rfl) keeps_arbitrate
      simp only [List.length_append, List.length_take, Config.queueDepth]
      omega

theorem keeps_hostFlushConsoleTx : Keeps s (hostFlushConsoleTx b s).1 :=
  keeps_onChannel fun _ _ => (keeps_modTx _ (.inl (Nat.zero_le _)) rfl).trans keeps_arbitrate

theorem keeps_hostSendBreak {n : Half} : Keeps s (hostSendBreak b n s).1 :=
  keeps_onChannel fun c s => by
    split
    · exact .refl s
    · split
      · exact .refl s
      · exact keeps_requestBreak

theorem keeps_endHold : Keeps s (endHold c s) := by
  unfold endHold
  split
  · exact (keeps_modTx _ (.inl le_rfl) rfl).trans keeps_arbitrate
  · exact .refl s

theorem keeps_stallIfDue : Keeps s (stallIfDue c s) := by
  unfold stallIfDue
  dsimp only
  split
  · exact .refl s
  · split
    · exact keeps_stall
    · exact .refl s

theorem keeps_hostSetTransmitSettings {f l : Byte} : Keeps s (hostSetTransmitSettings b f l s).1 :=
  keeps_onChannel fun c _ => keeps_onFlag fun on s => by
    have hset : Keeps s _ := keeps_modTx (c := c) (fun t => { t with
      flow := on, stallLimit := if l = 0 then 0 else clamp 1 60 l.toNat }) (.inl le_rfl) rfl
    have hact (s : State) : Keeps s (if on then stallIfDue c s else endHold c s) := by
      split
      · exact keeps_stallIfDue
      · exact keeps_endHold
    exact hset.trans (hact _)

/-! ## Patterns, recipes and triggers -/

theorem keeps_hostSetPattern {u f m : Byte} {l : List Byte} : Keeps s (hostSetPattern b u f m l s).1 :=
  keeps_onUnit fun c u _ => keeps_onFlag fun on _ => keeps_onFlag fun counting s => by
    dsimp only [done]
    split
    · exact (keeps_modUnit u _).trans keeps_tellRun
    · exact keeps_modUnit u _

theorem keeps_hostArmMatch {u : Byte} : Keeps s (hostArmMatch b u s).1 :=
  keeps_onUnit fun c u s => by
    split
    · exact .refl s
    · exact keeps_modUnit u _

theorem keeps_hostDisarmMatch {u : Byte} : Keeps s (hostDisarmMatch b u s).1 :=
  keeps_onUnit fun c u s => by
    split
    · exact .refl s
    · exact keeps_modUnit u _

theorem keeps_hostWriteRecipe {l : List StepRecord} : Keeps s (hostWriteRecipe b l s).1 :=
  keeps_onEight fun k s => by
    split
    · exact .refl s
    · split
      · exact .refl s
      · exact .quiet

theorem keeps_hostRunRecipe {r : Byte} : Keeps s (hostRunRecipe b r s).1 :=
  keeps_onChannel fun c _ => keeps_onEight fun k s => by
    split
    · exact .refl s
    · split
      · exact .refl s
      · split
        · exact .refl s
        · exact keeps_startRun

theorem keeps_hostStopRecipe : Keeps s (hostStopRecipe b s).1 :=
  keeps_onChannel fun c s => by
    split
    · exact keeps_endRun
    · exact .refl s

theorem keeps_hostSetTrigger {i e u g r l : Byte} {n : Half} : Keeps s (hostSetTrigger b i e u g r n l s).1 :=
  keeps_onSlot fun c i s => by
    split
    · dsimp only [done]
      exact keeps_modSlot i _
    · exact .refl s

theorem keeps_hostRearmTrigger {i : Byte} : Keeps s (hostRearmTrigger b i s).1 :=
  keeps_onSlot fun c i s => by
    split
    · exact .refl s
    · exact keeps_modSlot i _

theorem keeps_hostSetNoticeMask {fields : Table 29 Byte} : Keeps s (hostSetNoticeMask fields s).1 := by
  unfold hostSetNoticeMask
  split
  · exact .refl s
  · exact .quiet

@[simp] theorem chan_clearFlags : (clearFlags s).chan c = { s.chan c with flags := noFlags } := Table.get_map _ _ _

/-- Read Changes clears flags, which no law reads. -/
theorem keeps_clearFlags : Keeps s (clearFlags s) := by
  have hdrive (d : DriveNo) : (clearFlags s).drive d =
      { s.drive d with driveFlag := false, serverEjectFlag := false } := Table.get_map _ _ _
  have hsame (d : DriveNo) : Keeps.SameDrive (s.drive d) ((clearFlags s).drive d) := by
    rw [hdrive]
    exact ⟨rfl, rfl, rfl, rfl⟩
  refine ⟨⟨rfl, fun h c => ?_, id, fun h c => ?_, Keeps.cacheLaws_of_same hsame rfl rfl rfl rfl, fun _ _ h => ?_⟩,
    fun c => ?_, fun c => ?_⟩
  · rw [chan_clearFlags]
    exact h c
  · rw [chan_clearFlags]
    exact h c
  · have hconsole : (clearFlags s).consolePages = s.consolePages := by
      simp [State.consolePages, State.sumChannels, clearFlags, Table.map, Function.comp_def]
    have hunmet : (clearFlags s).unmet = s.unmet := by
      simp [State.unmet, State.sumChannels, clearFlags, Table.map, Function.comp_def]
    rw [Keeps.poolLaw_iff, hconsole, hunmet, Keeps.cachePages_of_maps fun d => (hsame d).1]
    exact h
  · rw [State.run, State.run, chan_clearFlags]
    exact id
  · rw [chan_clearFlags]
    exact id

/-! ## Media, wants and spills -/

theorem keeps_hostLoadDrive {r : DescriptorRecord} : Keeps s (hostLoadDrive b r s).1 :=
  keeps_onDrive fun d _ => keeps_onFlag fun wp s => by
    dsimp only
    split
    · exact .refl s
    next hsize =>
      split
      · exact .refl s
      next hstate => exact keeps_loadDescriptor (by tauto) (takenDescriptor_law r wp (by tauto))

theorem keeps_hostUnloadDrive : Keeps s (hostUnloadDrive b s).1 :=
  keeps_onDrive fun d s => by
    split
    · exact .refl s
    next h => exact keeps_unloadDescriptor (by simpa using h)

theorem keeps_hostInsert {ch : Byte} : Keeps s (hostInsert b ch s).1 :=
  keeps_onDrive fun d _ => keeps_onChannel fun c s => by
    split
    · exact .refl s
    next h => exact keeps_insertDrive h

theorem keeps_hostEject {f : Byte} : Keeps s (hostEject b f s).1 :=
  keeps_onDrive fun d _ => keeps_onFlag fun f s => by
    split
    · exact .refl s
    next h => exact keeps_ejectDrive h

theorem keeps_hostSetPortPresence {p : Byte} : Keeps s (hostSetPortPresence b p s).1 :=
  keeps_onChannel fun _ _ => keeps_onFlag fun _ _ => keeps_setPresence

/-- Marking wants TAKEN changes nothing that a law reads of them. -/
theorem wantKey_takePosted (n : Nat) (l : List Want) :
    (takePosted n l).2.map Keeps.wantKey = l.map Keeps.wantKey := by
  fun_induction takePosted n l with
  | case1 => rfl
  | case2 => rfl
  | case3 n w rest h x ih => exact congrArg (List.cons _) ih
  | case4 n w rest h x ih => exact congrArg (List.cons _) ih

theorem keeps_hostTakeWants : Keeps s (hostTakeWants s).1 := .quiet (hwants := wantKey_takePosted 8 s.wants)

theorem wantMatching_some {n : Byte} {d : DriveNo} {i : Nat} {w : Want} (h : s.wantMatching n d i = some w) :
    w ∈ s.wants ∧ w.number = n ∧ w.drive = d ∧ w.page = i := by
  have hmatch := List.find?_some h
  simp only [Bool.and_eq_true, decide_eq_true_eq] at hmatch
  exact ⟨List.mem_of_find?_eq_some h, hmatch.1.1, hmatch.1.2, hmatch.2⟩

theorem spillMatching_some {n : Byte} {d : DriveNo} {i : Nat} {x : Spill} (h : s.spillMatching n d i = some x) :
    x ∈ s.spills ∧ x.number = n ∧ x.drive = d ∧ x.page = i := by
  have hmatch := List.find?_some h
  simp only [Bool.and_eq_true, decide_eq_true_eq] at hmatch
  exact ⟨List.mem_of_find?_eq_some h, hmatch.1.1, hmatch.1.2, hmatch.2⟩

theorem keeps_hostFill {d : Byte} {p : Quad} {data : List Byte} : Keeps s (hostFill b d p data s).1 :=
  keeps_onDrive fun d s => by
    split
    · exact .refl s
    next w hw =>
      obtain ⟨hmem, -, rfl, -⟩ := wantMatching_some hw
      split
      · exact .refl s
      next hlen => exact keeps_fillWant hmem (by simpa using hlen)

theorem keeps_hostFillFailed {d r : Byte} {p : Quad} : Keeps s (hostFillFailed b d p r s).1 :=
  keeps_onDrive fun d _ => keeps_onFlag fun r s => by
    split
    · exact .refl s
    next w hw => exact keeps_failWant (wantMatching_some hw).1

theorem keeps_hostTakeSpill : Keeps s (hostTakeSpill s).1 := by
  unfold hostTakeSpill
  split
  · exact .refl s
  next r rest hq =>
    split
    · exact .refl s
    next hlen =>
      simp only [Config.spillEntries, not_le] at hlen
      exact keeps_handSpill hq (fun q hp => by rw [hp, Option.getD_some]) hlen
        (freeNumber_notMem _ (by rw [List.length_map]; omega) (by omega))

theorem keeps_hostSpillDone {d o : Byte} {p : Quad} : Keeps s (hostSpillDone b d p o s).1 :=
  keeps_onDrive fun d _ => keeps_onFlag fun retry s => by
    split
    · exact .refl s
    next x hx =>
      obtain ⟨hmem, -, rfl, -⟩ := spillMatching_some hx
      exact (keeps_moveSpilled hmem retry).trans keeps_afterSpill

/-! ## Every request -/

/-- The owning rule of every host request but a Part Reset keeps the laws. -/
theorem keeps_handlerOf (i : Instr) (hi : ∀ tag, i ≠ .partReset tag) (s : State) : Keeps s (handlerOf i s).1 := by
  cases i with
  | partReset tag => exact absurd rfl (hi tag)
  | channelReset => exact keeps_onChannel fun _ _ => keeps_channelReset
  | cut => exact keeps_hostCut
  | supply => exact keeps_hostSupply
  | pressButton => exact keeps_hostPulse
  | pulseReset => exact keeps_hostPulse
  | setPowerSettings => exact keeps_hostSetPowerSettings
  | powerStatus => exact keeps_onChannel fun _ => .refl
  | relearnBaud => exact keeps_onChannel fun _ _ => keeps_relearn
  | setBaudMode => exact keeps_hostSetBaudMode
  | setBaudSettings => exact keeps_hostSetBaudSettings
  | baudStatus => exact keeps_onChannel fun _ => .refl
  | setHeartbeatSettings => exact keeps_onChannel fun _ _ => keeps_onFlag fun _ _ => keeps_setWatch
  | heartbeatStatus => exact keeps_onChannel fun _ => .refl
  | setCaptureLimits => exact keeps_hostSetCaptureLimits
  | consoleRead => exact keeps_onChannel fun _ => .refl
  | consoleStatus => exact keeps_onChannel fun _ => .refl
  | sendConsole => exact keeps_hostSendConsole
  | flushConsoleTx => exact keeps_hostFlushConsoleTx
  | sendBreak => exact keeps_hostSendBreak
  | setTransmitSettings => exact keeps_hostSetTransmitSettings
  | transmitStatus => exact keeps_onChannel fun _ => .refl
  | setPattern => exact keeps_hostSetPattern
  | armMatch => exact keeps_hostArmMatch
  | disarmMatch => exact keeps_hostDisarmMatch
  | readMatch => exact keeps_onUnit fun _ _ => .refl
  | loadDrive => exact keeps_hostLoadDrive
  | unloadDrive => exact keeps_hostUnloadDrive
  | insert => exact keeps_hostInsert
  | eject => exact keeps_hostEject
  | setPortPresence => exact keeps_hostSetPortPresence
  | driveStatus => exact keeps_onDrive fun _ => .refl
  | portStatus => exact keeps_onChannel fun _ => .refl
  | takeWants => exact keeps_hostTakeWants
  | fill => exact keeps_hostFill
  | fillFailed => exact keeps_hostFillFailed
  | takeSpill => exact keeps_hostTakeSpill
  | spillDone => exact keeps_hostSpillDone
  | writeRecipe => exact keeps_hostWriteRecipe
  | writeKeyString => exact keeps_onEight fun _ _ => .quiet
  | readRecipe => exact keeps_onEight fun _ => .refl
  | readKeyString => exact keeps_onEight fun _ => .refl
  | runRecipe => exact keeps_hostRunRecipe
  | stopRecipe => exact keeps_hostStopRecipe
  | runStatus => exact keeps_onChannel fun _ => .refl
  | setTrigger => exact keeps_hostSetTrigger
  | rearmTrigger => exact keeps_hostRearmTrigger
  | triggerStatus => exact keeps_onChannel fun _ => .refl
  | setNoticeMask => exact keeps_hostSetNoticeMask
  | readChanges => exact keeps_clearFlags
  | _ => exact .refl s

end Rules

end Sys2Proof.Machine

/-! # The laws kept by every command and every step -/

namespace Sys2Proof.Machine

/-- A sum over a table whose entries each give at most `k`. -/
theorem sum_table_le {n k : Nat} {α : Type} (f : α → Nat) (t : Table n α) (h : ∀ i, f (t.get i) ≤ k) :
    (t.entries.map f).sum ≤ n * k := by
  have hall : ∀ x ∈ t.entries.map f, x ≤ k := by
    intro x hx
    obtain ⟨a, ha, rfl⟩ := List.mem_map.1 hx
    obtain ⟨i, hi, rfl⟩ := List.getElem_of_mem ha
    exact h ⟨i, t.size ▸ hi⟩
  simpa [t.size] using List.sum_le_card_nsmul _ k hall

/-! ## A reset state -/

/-- What the two whole resets leave where a law reads: empty stores with the limits 8 and 32, empty queues, no runs, no
drives, no pages, no wants and no spills. -/
structure State.Bare (s : State) : Prop where
  store : ∀ c, (s.chan c).store = .empty 8 32
  queue : ∀ c, (s.chan c).tx.queue = []
  settling : ∀ c, (s.chan c).tx.settling = false
  run : ∀ c, (s.chan c).context.run = none
  drive : ∀ d, s.drive d = .reset
  clean : s.cleanList = []
  dirty : s.spillQueue = []
  wants : s.wants = []
  spills : s.spills = []

namespace State.Bare

variable {s : State}

theorem withPending (h : s.Bare) (l : List Instr) : (s.withPending l).Bare :=
  ⟨h.store, h.queue, h.settling, h.run, h.drive, h.clean, h.dirty, h.wants, h.spills⟩

theorem consoles (h : s.Bare) : s.ConsolesFit := fun c => by
  rw [h.store, h.queue]
  exact ⟨Nat.zero_le _, Nat.zero_le _⟩

theorem tables (h : s.Bare) : s.TablesFit := by
  simp [State.TablesFit, h.wants, h.spills]

theorem stores (h : s.Bare) : s.StoresLaw := fun c => by
  rw [h.store]
  exact Store.law_empty (by omega) (by omega)

theorem runs (h : s.Bare) (c : Channel) : RunHolds (s.run c) := by
  rw [State.run, h.run]
  exact .none

theorem cacheLaws (h : s.Bare) : s.CacheLaws := by
  have hhome (r : PageRef) : s.homeOf r = none := by
    rw [State.homeOf, h.drive]
    rfl
  have hlisted (k : Home) : s.listed k = [] := by
    cases k <;> simp [State.listed, h.clean, h.dirty, h.wants, h.spills]
  refine ⟨h.tables, cacheLaw_iff.2 ⟨fun d => by rw [h.drive]; rfl, fun k => ?_, fun d p hp => ?_⟩, fun d => ?_⟩
  · simp [hlisted, hhome]
  · rw [h.drive] at hp
    cases hp
  · simp only [h.drive, h.wants, h.spills, Drive.reset]
    simp

theorem pool (h : s.Bare) : s.PoolLaw := by
  have hconsole : s.consolePages ≤ 8 * 0 := sum_table_le _ s.channels fun c =>
    (congrArg (fun st => st.pages.length) (h.store c)).le
  have hcache : s.cachePages ≤ 4 * 0 := sum_table_le _ s.drives fun d =>
    (congrArg (fun x => x.map.length) (h.drive d)).le
  have hunmet : s.unmet ≤ 8 * 8 := sum_table_le _ s.channels fun c => (congrArg Store.share (h.store c)).le
  rw [Keeps.poolLaw_iff]
  omega

end State.Bare

theorem bare_powerOn (now : Nat) (pins : Table 8 Pins) : (State.powerOn now pins).Bare := by
  have hchan (c : Channel) : (State.powerOn now pins).chan c = .powerOn now (pins.get c) := Table.get_map _ _ _
  have hdrive (d : DriveNo) : (State.powerOn now pins).drive d = .reset := Table.get_replicate _ _
  refine ⟨fun c => ?_, fun c => ?_, fun c => ?_, fun c => ?_, hdrive, rfl, rfl, rfl, rfl⟩ <;> rw [hchan] <;> rfl

theorem bare_partReset (s : State) : (partReset s).Bare := by
  have hchan (c : Channel) : (partReset s).chan c = (s.chan c).partReset s.now := Table.get_map _ _ _
  have hdrive (d : DriveNo) : (partReset s).drive d = .reset := Table.get_replicate _ _
  refine ⟨fun c => ?_, fun c => ?_, fun c => ?_, fun c => ?_, hdrive, rfl, rfl, rfl, rfl⟩ <;> rw [hchan] <;> rfl

/-! ## The laws of the whole state from one state to the next -/

/-- From `s` to `t` every law carries over, that of the reply queue too. -/
structure KeepsLaws (s t : State) : Prop where
  replies : s.RepliesFit → t.RepliesFit
  consoles : s.ConsolesFit → t.ConsolesFit
  tables : s.TablesFit → t.TablesFit
  stores : s.StoresLaw → t.StoresLaw
  cache : s.CacheLaws → t.CacheLaws
  pool : s.CacheLaws → s.StoresLaw → s.PoolLaw → t.PoolLaw
  runs : s.RunsLaw → t.RunsLaw
  settled : s.Settled → t.Settled

namespace KeepsLaws

variable {s t u : State}

theorem refl (s : State) : KeepsLaws s s := ⟨id, id, id, id, id, fun _ _ => id, id, id⟩

/-- No other law reads the link: another may be put in its place before and after. -/
theorem of_keeps {k : Link} (h : Keeps (s.withLink k) t) (l : Link) (hl : s.RepliesFit → l.replies.length ≤ 8) :
    KeepsLaws s (t.withLink l) :=
  ⟨hl, h.consoles, h.tables, h.stores, h.cache, h.pool, fun hs c => h.runs c (hs c), fun hs c =>
    Bool.eq_false_iff.2 fun hc => Bool.eq_false_iff.1 (hs c) (h.settled c hc)⟩

theorem trans (h : KeepsLaws s t) (h' : KeepsLaws t u) : KeepsLaws s u :=
  ⟨h'.replies ∘ h.replies, h'.consoles ∘ h.consoles, h'.tables ∘ h.tables, h'.stores ∘ h.stores, h'.cache ∘ h.cache,
    fun hc hs hp => h'.pool (h.cache hc) (h.stores hs) (h.pool hc hs hp), h'.runs ∘ h.runs, h'.settled ∘ h.settled⟩

theorem keeps (h : Keeps s t) : KeepsLaws s t := of_keeps (k := s.link) h t.link fun hs => by
  rw [h.link]
  exact hs

theorem of_bare (h : t.Bare) (l : Link) (hl : l.replies.length ≤ 8) : KeepsLaws s (t.withLink l) :=
  ⟨fun _ => hl, fun _ => h.consoles, fun _ => h.tables, fun _ => h.stores, fun _ => h.cacheLaws, fun _ _ _ => h.pool,
    fun _ => h.runs, fun _ => h.settling⟩

end KeepsLaws

section Link

variable {s : State}

theorem ready_length (h : s.ready = true) : s.link.replies.length < 8 := of_decide_eq_true h

/-- A request taken: with READY one reply is appended. -/
theorem keepsLaws_takeFrame (f : RequestFrame) {h : Handler} (hh : ∀ s, Keeps s (h s).1) :
    KeepsLaws s (takeFrame f h s) := by
  unfold takeFrame
  dsimp only
  split
  next hready =>
    have hlen := ready_length (Bool.and_eq_true_iff.1 hready).1
    have hkept := hh (shiftOut (List.replicate (6 + f.body.length) 0) s)
    refine .of_keeps (k := (shiftOut (List.replicate (6 + f.body.length) 0) s).link) hkept _ fun _ => ?_
    simp only [hkept.link, shiftOut_link, List.length_append, List.length_singleton]
    omega
  · exact .of_keeps (k := s.link) (.refl s) _ id

/-- A Part Reset's reply is the only one. -/
theorem keepsLaws_partReset (f : RequestFrame) : KeepsLaws s (takeFrame f hostPartReset s) := by
  unfold takeFrame
  dsimp only
  split
  · exact .of_bare (bare_partReset _) _ (Nat.le_add_left 1 7)
  · exact .of_keeps (k := s.link) (.refl s) _ id

theorem keepsLaws_takeRequest (i : Instr) : KeepsLaws s (takeRequest i (handlerOf i) s) := by
  unfold takeRequest
  split
  next f _ =>
    by_cases hi : ∃ tag, i = .partReset tag
    · obtain ⟨tag, rfl⟩ := hi
      exact keepsLaws_partReset f
    · exact keepsLaws_takeFrame f (keeps_handlerOf i (not_exists.1 hi))
  · exact .refl s

theorem keepsLaws_shiftOut (l : List Byte) : KeepsLaws s (shiftOut l s) := .of_keeps (k := s.link) (.refl s) _ id

theorem keepsLaws_readReply (n : Nat) : KeepsLaws s (readReply n s) := by
  unfold readReply
  dsimp only
  split
  · exact keepsLaws_shiftOut _
  next r rest hr =>
    split
    · refine .of_keeps (k := s.link) (.refl s) _ fun h => ?_
      rw [State.RepliesFit, hr, List.length_cons] at h
      exact Nat.le_of_succ_le h
    · exact keepsLaws_shiftOut _

end Link

/-! ## Events -/

section Events

variable {s : State} {c : Channel}

/-- A command that is no transaction and no power-on reset keeps the laws and leaves the link. -/
def NextKeeps (s : State) (o : Outcome) : Prop := ∀ t, o = .next t → Keeps s t

theorem Keeps.next {t : State} (h : Keeps s t) : NextKeeps s (.next t) := by
  rintro _ ⟨⟩
  exact h

theorem nextKeeps_ite {p : Prop} [Decidable p] {t : State} (h : Keeps s t) : NextKeeps s (.next (if p then t else s)) := by
  refine Keeps.next ?_
  split
  · exact h
  · exact .refl s

/-! ### Power and lock -/

theorem execPgQualified_keeps : NextKeeps s (execPgQualified c s) := by
  refine Keeps.next ?_
  split
  · exact .refl s
  · exact (keeps_advanceTo _).trans keeps_qualifyPg

theorem execHoldoffExpiry_keeps : NextKeeps s (execHoldoffExpiry c s) := by
  refine Keeps.next ?_
  split
  · dsimp only
    split
    · exact (keeps_advanceTo _).trans keeps_assertPen
    · exact ((keeps_advanceTo _).trans (keeps_modPower _)).trans keeps_raise
  · exact .refl s

theorem execPulseEnd_keeps (l : Line) : NextKeeps s (execPulseEnd c l s) := by
  refine Keeps.next ?_
  split
  · exact .refl s
  · dsimp only
    split
    · exact ((keeps_advanceTo _).trans keeps_endPulse).trans keeps_tellRun
    · exact (keeps_advanceTo _).trans keeps_endPulse

theorem keeps_lockOn : Keeps s (lockOn c s) := by
  have hlocked : Keeps s (s
      |> modPower c (fun p => { p with locked := true, lockSince := none })
      |> cutShort c .button (fun _ => true)
      |> cutShort c .reset (fun _ => true)
      |> modPower c (fun p => { p with pendingSupply := false })
      |> marker c .lockOn 0
      |> raise c .lock) :=
    ((((((keeps_modPower _).trans keeps_cutShort).trans keeps_cutShort).trans (keeps_modPower _)).trans
      keeps_marker).trans keeps_raise)
  unfold lockOn
  dsimp only
  split
  · exact hlocked.trans keeps_endRun
  · exact hlocked

theorem execLockQualifiedLocked_keeps : NextKeeps s (execLockQualifiedLocked c s) := by
  refine Keeps.next ?_
  split
  · exact (keeps_advanceTo _).trans keeps_lockOn
  · exact .refl s

theorem execLockQualifiedFree_keeps : NextKeeps s (execLockQualifiedFree c s) := by
  refine Keeps.next ?_
  split
  · exact ((keeps_advanceTo _).trans (keeps_modPower _)).trans keeps_marker
  · exact .refl s

/-! ### The receive line and the monitors -/

theorem execCharacterAccepted_keeps : NextKeeps s (execCharacterAccepted c s) := by
  refine Keeps.next ?_
  split
  · exact .refl s
  · split
    · exact ((keeps_advanceTo _).trans (keeps_setFraming _)).trans keeps_acceptByte
    · exact .refl s

theorem execFramingError_keeps : NextKeeps s (execFramingError c s) := by
  refine Keeps.next ?_
  split
  · exact .refl s
  · split
    · exact ((keeps_advanceTo _).trans (keeps_setFraming _)).trans keeps_countFraming
    · exact .refl s

theorem execFalseStart_keeps : NextKeeps s (execFalseStart c s) := by
  refine Keeps.next ?_
  split
  · exact .refl s
  · split
    · exact (keeps_advanceTo _).trans (keeps_setFraming _)
    · exact .refl s

theorem execRxdRawChange_keeps (level : Bool) (gap : Nat) : NextKeeps s (execRxdRawChange c level gap s) := by
  have hticks : Keeps s (s.advanceTicks gap) := .quiet
  refine Keeps.next (hticks.trans ?_)
  split
  · exact .refl _
  · split
    · exact keeps_modFinder _
    · split
      · exact keeps_modFinder _
      · exact keeps_surviveEdge.trans (keeps_modFinder _)

theorem execSurvivingEdge_keeps : NextKeeps s (execSurvivingEdge c s) := by
  refine Keeps.next ?_
  split
  · exact .refl s
  · exact (keeps_advanceTo _).trans keeps_surviveEdge

theorem keeps_countEdge : Keeps s (countEdge c s) := by
  unfold countEdge
  split
  · exact keeps_modWatch _
  · exact .refl s

theorem execHeartbeatEdge_keeps : NextKeeps s (execHeartbeatEdge c s) := by
  refine Keeps.next ?_
  split
  · exact ((keeps_advanceTo _).trans (keeps_modWatch _)).trans keeps_countEdge
  · exact .refl s

theorem execHeartbeatQualifiedLow_keeps : NextKeeps s (execHeartbeatQualifiedLow c s) := by
  refine Keeps.next ?_
  split
  · exact (keeps_advanceTo _).trans (keeps_modWatch _)
  · exact .refl s

theorem keeps_raiseHang : Keeps s (raiseHang c s) := (keeps_marker.trans keeps_raise).trans keeps_deliver

theorem keeps_compareLow {n : Nat} : Keeps s (compareLow c n s) := by
  unfold compareLow
  dsimp only
  split
  · split
    · exact (keeps_modWatch _).trans keeps_raiseHang
    · exact keeps_modWatch _
  · exact keeps_modWatch _

theorem keeps_compareFast {n : Nat} : Keeps s (compareFast c n s) := by
  unfold compareFast
  dsimp only
  split
  · split
    · exact .refl s
    · exact (((keeps_modWatch _).trans keeps_marker).trans keeps_raise).trans keeps_deliver
  · exact keeps_modWatch _

theorem keeps_holdCount : Keeps s (holdCount c s) := keeps_modWatch _

theorem keeps_watchWindow : Keeps s (watchWindow c s) := by
  unfold watchWindow
  dsimp only
  split
  · exact ((keeps_holdCount.trans keeps_compareLow).trans keeps_compareFast).trans keeps_tellRun
  · exact (keeps_holdCount.trans keeps_compareLow).trans keeps_compareFast

/-! ### The transmitter -/

theorem keeps_endPass : Keeps s (endPass c s) := by
  unfold endPass
  split
  · exact .refl s
  · split
    · dsimp only
      split
      · exact (keeps_modTx_slot _).trans keeps_tellRun
      · exact keeps_modTx_slot _
    · exact .refl s

theorem execCharacterEnd_keeps : NextKeeps s (execCharacterEnd c s) := by
  refine Keeps.next ?_
  split
  · exact .refl s
  · exact (keeps_advanceTo _).trans (keeps_settleEnd fun _ => (keeps_modTx _ (.inl le_rfl) rfl).trans keeps_endPass)

theorem execBreakEnd_keeps : NextKeeps s (execBreakEnd c s) := by
  refine Keeps.next ?_
  split
  next o n t _ =>
    refine .trans (keeps_advanceTo _) (keeps_settleEnd fun s => ?_)
    dsimp only
    split
    · exact keeps_endBreak.trans keeps_tellRun
    · exact keeps_endBreak
  · exact .refl s

theorem execKeyCountdownExpiry_keeps : NextKeeps s (execKeyCountdownExpiry c s) := by
  refine Keeps.next ?_
  split
  · exact .refl s
  · split
    · exact ((keeps_advanceTo _).trans (keeps_modTx_slot _)).trans keeps_arbitrate
    · exact .refl s

theorem execRtrAsserted_keeps (level : Bool) : NextKeeps s (execRtrAsserted c level s) := by
  have hrtr : Keeps s (modTx c (fun t => { t with rtr := level }) s) := keeps_modTx _ (.inl le_rfl) rfl
  refine Keeps.next (hrtr.trans ?_)
  split
  · exact keeps_endHold
  · exact .refl _

theorem execStallExpiry_keeps : NextKeeps s (execStallExpiry c s) := by
  refine Keeps.next ?_
  split
  · exact .refl s
  · split
    · exact .refl s
    · exact (keeps_advanceTo _).trans keeps_stall

/-! ### The ports, their waits, wants and spills -/

theorem execVbusQualified_keeps : NextKeeps s (execVbusQualified c s) := by
  refine Keeps.next ?_
  split
  · exact .refl s
  · exact ((keeps_advanceTo _).trans (keeps_modPort _)).trans keeps_actOnVbus

theorem execBusReset_keeps : NextKeeps s (execBusReset c s) := by
  refine Keeps.next ?_
  split
  · exact keeps_modPort _
  · exact keeps_dropBus
  · exact keeps_dropBus
  · exact .refl s

theorem execSyncDeadline_keeps : NextKeeps s (execSyncDeadline c s) := by
  refine Keeps.next ?_
  split
  · exact keeps_expireWait
  · exact .refl s

theorem execWantWaitDeadline_keeps : NextKeeps s (execWantWaitDeadline c s) := by
  refine Keeps.next ?_
  split
  · exact keeps_expireWait
  · exact .refl s

theorem execWantEntryDeadline_keeps : NextKeeps s (execWantEntryDeadline c s) := by
  refine Keeps.next ?_
  split
  · exact keeps_expireWait
  · exact .refl s

theorem execPageWaitDeadline_keeps : NextKeeps s (execPageWaitDeadline c s) := by
  refine Keeps.next ?_
  split
  · exact keeps_expireWait
  · exact .refl s

theorem execDirtyWaitDeadline_keeps : NextKeeps s (execDirtyWaitDeadline c s) := by
  refine Keeps.next ?_
  split
  · exact keeps_expireWait
  · exact .refl s

theorem execWantDeadline_keeps (n : Byte) : NextKeeps s (execWantDeadline n s) := by
  refine Keeps.next ?_
  split
  · exact .refl s
  next w hw => exact (keeps_advanceTo _).trans (keeps_failWant (List.mem_of_find?_eq_some hw))

theorem execSpillDeadline_keeps (n : Byte) : NextKeeps s (execSpillDeadline n s) := by
  refine Keeps.next ?_
  split
  · exact .refl s
  next x hx =>
    have hmoved := keeps_moveSpilled (s := s.advanceTo x.deadline) (List.mem_of_find?_eq_some hx) true
    exact ((keeps_advanceTo _).trans hmoved).trans keeps_afterSpill

/-! ### Runs and slots -/

theorem execStepTimeout_keeps : NextKeeps s (execStepTimeout c s) := by
  refine Keeps.next ?_
  split
  · exact .refl s
  · exact (keeps_advanceTo _).trans keeps_finishWait

theorem execDelayEnd_keeps : NextKeeps s (execDelayEnd c s) := by
  refine Keeps.next ?_
  split
  · exact (keeps_advanceTo _).trans keeps_finishWait
  · exact .refl s

theorem execQuietIntervalEnd_keeps : NextKeeps s (execQuietIntervalEnd c s) := by
  refine Keeps.next ?_
  split
  · exact (keeps_advanceTo _).trans keeps_finishWait
  · exact .refl s

theorem execTriggerHoldoffExpiry_keeps (i : SlotNo) : NextKeeps s (execTriggerHoldoffExpiry c i s) := by
  refine Keeps.next ?_
  split
  · exact .refl s
  · exact (keeps_advanceTo _).trans (keeps_modSlot i _)

end Events

/-! ## Every command and every step -/

/-- The command is a transaction of the Management Link, or a power-on reset. -/
def onLink : Instr → Bool
  | .powerOnReset _ => true
  | .badFrame _ => true
  | .replyRead _ => true
  | .linkOtherTransaction _ _ => true
  | i => i.request?.isSome

/-- Every event keeps the laws and leaves the link. -/
theorem nextKeeps_of_event (i : Instr) (s : State) (hi : onLink i = false) : NextKeeps s (exec i s) := by
  cases i with
  | pgChange c level => exact Keeps.next (keeps_modPower _)
  | pgQualified c => exact execPgQualified_keeps
  | holdoffExpiry c => exact execHoldoffExpiry_keeps
  | pulseEnd c l => exact execPulseEnd_keeps l
  | attributionWindowExpiry c l => exact Keeps.next (keeps_advanceTo _)
  | lockChange c level => exact Keeps.next (keeps_modPower _)
  | lockQualifiedLocked c => exact execLockQualifiedLocked_keeps
  | lockQualifiedFree c => exact execLockQualifiedFree_keeps
  | characterAccepted c => exact execCharacterAccepted_keeps
  | framingError c => exact execFramingError_keeps
  | falseStart c => exact execFalseStart_keeps
  | rxdRawChange c level gap => exact execRxdRawChange_keeps level gap
  | survivingEdge c => exact execSurvivingEdge_keeps
  | baudWindowEnd c => exact Keeps.next ((keeps_advanceTo _).trans keeps_baudWindow)
  | hbChange c level => exact Keeps.next (keeps_modWatch _)
  | heartbeatEdge c => exact execHeartbeatEdge_keeps
  | heartbeatQualifiedLow c => exact execHeartbeatQualifiedLow_keeps
  | heartbeatWindowEnd c => exact nextKeeps_ite ((keeps_advanceTo _).trans keeps_watchWindow)
  | characterEnd c => exact execCharacterEnd_keeps
  | breakEnd c => exact execBreakEnd_keeps
  | keyCountdownExpiry c => exact execKeyCountdownExpiry_keeps
  | rtrAsserted c level => exact execRtrAsserted_keeps level
  | stallExpiry c => exact execStallExpiry_keeps
  | vbusChange c level => exact Keeps.next (keeps_modPort _)
  | vbusQualified c => exact execVbusQualified_keeps
  | busReset c => exact execBusReset_keeps
  | configuration c => exact nextKeeps_ite keeps_enterConfigured
  | deconfiguration c => exact nextKeeps_ite keeps_dropBus
  | suspend c => exact nextKeeps_ite keeps_setPortState
  | resume c => exact nextKeeps_ite keeps_enterConfigured
  | remoteWakeSetting c on => exact nextKeeps_ite (keeps_modPort _)
  | queryReady c => exact Keeps.next (keeps_serverRequest fun _ _ _ => keeps_complete)
  | queryCapacity c => exact Keeps.next (keeps_serverRequest fun _ _ _ => keeps_capacityRequest)
  | readBlocks c lba n => exact Keeps.next (keeps_serverRequest fun _ _ => keeps_readRequest)
  | writeBlocks c lba n data => exact Keeps.next (keeps_serverRequest fun _ _ => keeps_writeRequest)
  | removalLock c on => exact Keeps.next (keeps_serverRequest fun _ _ _ => keeps_lockRequest)
  | serverEject c => exact Keeps.next (keeps_serverRequest fun _ _ _ => keeps_ejectRequest)
  | sync c => exact Keeps.next (keeps_serverRequest fun _ _ _ => keeps_syncRequest)
  | syncDeadline c => exact execSyncDeadline_keeps
  | wantDeadline want => exact execWantDeadline_keeps want
  | wantWaitDeadline c => exact execWantWaitDeadline_keeps
  | wantEntryDeadline c => exact execWantEntryDeadline_keeps
  | pageWaitDeadline c => exact execPageWaitDeadline_keeps
  | dirtyWaitDeadline c => exact execDirtyWaitDeadline_keeps
  | spillDeadline spill => exact execSpillDeadline_keeps spill
  | stepTimeout c => exact execStepTimeout_keeps
  | delayEnd c => exact execDelayEnd_keeps
  | quietIntervalEnd c => exact execQuietIntervalEnd_keeps
  | triggerHoldoffExpiry c i => exact execTriggerHoldoffExpiry_keeps i
  | _ => cases hi

theorem keepsLaws_exec {i : Instr} {s t : State} (ht : exec i s = .next t) : KeepsLaws s t := by
  cases hf : i.request? with
  | some f =>
    rw [exec_of_request hf] at ht
    obtain rfl := Host.Outcome.next.inj ht
    exact keepsLaws_takeRequest i
  | none =>
    cases hi : onLink i with
    | false => exact .keeps (nextKeeps_of_event i s hi t ht)
    | true =>
      cases i with
      | powerOnReset pins =>
        obtain rfl := Host.Outcome.next.inj ht
        exact .of_bare ((bare_powerOn s.now pins).withPending s.pending) _ (Nat.zero_le 8)
      | badFrame l =>
        obtain rfl := Host.Outcome.next.inj ht
        split
        next i _ => exact keepsLaws_takeRequest i
        · exact .of_keeps (k := s.link) (.refl s) _ id
      | replyRead n =>
        obtain rfl := Host.Outcome.next.inj ht
        exact keepsLaws_readReply n
      | linkOtherTransaction first n =>
        obtain rfl := Host.Outcome.next.inj ht
        split
        · exact .refl s
        · split
          · exact .of_keeps (k := s.link) (.refl s) _ id
          · split
            · exact keepsLaws_readReply n
            · exact keepsLaws_shiftOut _
      | _ => simp [onLink, hf] at hi

theorem keepsLaws_step {s t : State} (ht : step s = .next t) : KeepsLaws s t := by
  unfold step at ht
  split at ht
  · obtain rfl := Host.Outcome.next.inj ht
    exact .keeps .quiet
  next i rest _ => exact (⟨id, id, id, id, id, fun _ _ => id, id, id⟩ : KeepsLaws s (s.withPending rest)).trans (keepsLaws_exec ht)

/-- Settles O57: every operation of the model carries these laws over, each from its own premise. -/
theorem theBoundsAreKept : Obligations.TheBoundsAreKept :=
  ⟨fun _ _ ⟨hreplies, hconsoles, htables⟩ ht =>
      have h := keepsLaws_step ht
      ⟨h.replies hreplies, h.consoles hconsoles, h.tables htables⟩,
    fun _ _ hs ht => (keepsLaws_step ht).stores hs, fun _ _ hs ht => (keepsLaws_step ht).runs hs,
    fun _ _ hs ht => (keepsLaws_step ht).settled hs⟩

/-- Settles O58: a page that moves leaves one list and enters another, and a drive's move finds its laws met. -/
theorem theCacheLawIsKept : Obligations.TheCacheLawIsKept := fun _ _ hs ht => (keepsLaws_step ht).cache hs

/-- Settles O59: a page taken past the pool check leaves the unmet floors covered, and a page below the floor was
among them. -/
theorem theFloorGuaranteeIsKept : Obligations.TheFloorGuaranteeIsKept :=
  fun _ _ ⟨htables, hcache, hdrives, hstores, hpool⟩ ht =>
    have h := keepsLaws_step ht
    ⟨h.stores hstores, h.pool ⟨htables, hcache, hdrives⟩ hstores hpool⟩

/-- Settles O60: the reset state is bare. -/
theorem resetMeetsTheInvariants : Obligations.ResetMeetsTheInvariants := by
  have h : State.reset.Bare := bare_powerOn _ _
  obtain ⟨-, hcache, hdrives⟩ := h.cacheLaws
  exact ⟨powerOn_lockLaw _ _, Nat.zero_le _, h.consoles, h.tables, h.stores, h.runs, h.settling, hcache, hdrives, h.pool⟩

end Sys2Proof.Machine

/-! # The frames of the requests, and their answers -/

namespace Sys2Proof.Machine

section Fields

/-! ## The bytes of a field read from its bytes -/

/-- The bytes at or above the joint of two joined words are the first word's. -/
theorem extract_high {v w W : Nat} {z : BitVec W} {x : BitVec v} {y : BitVec w} (hW : W = v + w)
    (hz : z = (x ++ y).cast hW.symm) (n m : Nat) : z.extractLsb' (n + w) m = x.extractLsb' n m := by
  subst hW hz
  simp [BitVec.extractLsb'_append_eq_of_le]

/-- The bytes below the joint of two joined words are the second word's. -/
theorem extract_low {v w W : Nat} {z : BitVec W} {x : BitVec v} {y : BitVec w} (hW : W = v + w)
    (hz : z = (x ++ y).cast hW.symm) {n m : Nat} (h : n + m ≤ w) : z.extractLsb' n m = y.extractLsb' n m := by
  subst hW hz
  simp [BitVec.extractLsb'_append_eq_of_add_le h]

theorem bytes_halfOf (a b : Byte) : (halfOf a b).bytes = [a, b] := by
  have high := extract_high (z := halfOf a b) (x := a) (y := b) rfl rfl 0 8
  have low := extract_low (z := halfOf a b) (x := a) (y := b) rfl rfl (n := 0) (m := 8) (by decide)
  rw [Half.bytes, high, low, BitVec.extractLsb'_eq_self, BitVec.extractLsb'_eq_self]

theorem bytes_quadOf (a b c d : Byte) : (quadOf a b c d).bytes = [a, b, c, d] := by
  have high (n : Nat) := extract_high (z := quadOf a b c d) (x := halfOf a b) (y := halfOf c d) rfl rfl n 8
  have low {n : Nat} (h : n + 8 ≤ 16) :=
    extract_low (z := quadOf a b c d) (x := halfOf a b) (y := halfOf c d) rfl rfl h
  have hbytes : (quadOf a b c d).bytes = (halfOf a b).bytes ++ (halfOf c d).bytes := by
    rw [Quad.bytes, high 8, high 0, low (by decide), low (by decide)]
    rfl
  rw [hbytes, bytes_halfOf, bytes_halfOf]
  rfl

theorem bytes_posOf (a b c d e f : Byte) : (posOf a b c d e f).bytes = [a, b, c, d, e, f] := by
  have high (n : Nat) := extract_high (z := posOf a b c d e f) (x := halfOf a b) (y := quadOf c d e f) rfl rfl n 8
  have low {n : Nat} (h : n + 8 ≤ 32) :=
    extract_low (z := posOf a b c d e f) (x := halfOf a b) (y := quadOf c d e f) rfl rfl h
  have hbytes : (posOf a b c d e f).bytes = (halfOf a b).bytes ++ (quadOf c d e f).bytes := by
    rw [Pos48.bytes, high 8, high 0, low (by decide), low (by decide), low (by decide), low (by decide)]
    rfl
  rw [hbytes, bytes_halfOf, bytes_quadOf]
  rfl

/-- A body read as step records is those records' bytes. -/
theorem bytes_stepRecords {body : List Byte} {l : List StepRecord} (h : stepRecords body = some l) :
    l.flatMap StepRecord.bytes = body := by
  fun_induction stepRecords body generalizing l with
  | case1 =>
    cases h
    rfl
  | case2 k a b c d e f g x rest ih =>
    obtain ⟨t, ht, rfl⟩ := Option.map_eq_some_iff.1 h
    simp [ih ht, StepRecord.bytes, bytes_quadOf]
  | case3 => cases h

end Fields

section Shapes

variable {kind k tag : Byte} {body : List Byte} {i : Instr}

/-! ## A body of each shape is the body of the request read from it -/

theorem request_of_bare {j : Instr} (h : bare j body = some i) (hj : j.request? = some ⟨k, tag, []⟩)
    (hk : kind.toNat = k.toNat) : i.request? = some ⟨kind, tag, body⟩ := by
  unfold bare at h
  split at h
  · cases h
    rw [hj, BitVec.eq_of_toNat_eq hk]
  · cases h

theorem request_of_one {f : Byte → Instr} (h : one f body = some i)
    (hf : ∀ a, (f a).request? = some ⟨k, tag, [a]⟩) (hk : kind.toNat = k.toNat) :
    i.request? = some ⟨kind, tag, body⟩ := by
  unfold one at h
  split at h
  · cases h
    rw [hf, BitVec.eq_of_toNat_eq hk]
  · cases h

theorem request_of_two {f : Byte → Byte → Instr} (h : two f body = some i)
    (hf : ∀ a b, (f a b).request? = some ⟨k, tag, [a, b]⟩) (hk : kind.toNat = k.toNat) :
    i.request? = some ⟨kind, tag, body⟩ := by
  unfold two at h
  split at h
  · cases h
    rw [hf, BitVec.eq_of_toNat_eq hk]
  · cases h

theorem request_of_three {f : Byte → Byte → Byte → Instr} (h : three f body = some i)
    (hf : ∀ a b c, (f a b c).request? = some ⟨k, tag, [a, b, c]⟩) (hk : kind.toNat = k.toNat) :
    i.request? = some ⟨kind, tag, body⟩ := by
  unfold three at h
  split at h
  · cases h
    rw [hf, BitVec.eq_of_toNat_eq hk]
  · cases h

theorem request_of_timed {f : Byte → Half → Instr} (h : timed f body = some i)
    (hf : ∀ a n, (f a n).request? = some ⟨k, tag, a :: n.bytes⟩) (hk : kind.toNat = k.toNat) :
    i.request? = some ⟨kind, tag, body⟩ := by
  unfold timed at h
  split at h
  · cases h
    rw [hf, BitVec.eq_of_toNat_eq hk, bytes_halfOf]
  · cases h

theorem request_of_run1 {f : Byte → List Byte → Instr} (h : run1 f body = some i)
    (hf : ∀ a l, (f a l).request? = some ⟨k, tag, a :: l⟩) (hk : kind.toNat = k.toNat) :
    i.request? = some ⟨kind, tag, body⟩ := by
  unfold run1 at h
  split at h
  · cases h
    rw [hf, BitVec.eq_of_toNat_eq hk]
  · cases h

theorem request_of_answer {f : Byte → Byte → Quad → Byte → Instr} (h : answer f body = some i)
    (hf : ∀ n d p r, (f n d p r).request? = some ⟨k, tag, n :: d :: (p.bytes ++ [r])⟩)
    (hk : kind.toNat = k.toNat) : i.request? = some ⟨kind, tag, body⟩ := by
  unfold answer at h
  split at h
  · cases h
    rw [hf, BitVec.eq_of_toNat_eq hk, bytes_quadOf]
    rfl
  · cases h

/-! ## The catalogue -/

/-- What the catalogue reads is the request whose frame has that kind, tag and body. -/
theorem request_of_requestOf (h : requestOf kind tag body = some i) : i.request? = some ⟨kind, tag, body⟩ := by
  unfold requestOf at h
  split at h
  · exact request_of_bare h rfl ‹_›
  · exact request_of_bare h rfl ‹_›
  · exact request_of_one h (fun _ => rfl) ‹_›
  · exact request_of_one h (fun _ => rfl) ‹_›
  · exact request_of_one h (fun _ => rfl) ‹_›
  · exact request_of_timed h (fun _ _ => rfl) ‹_›
  · exact request_of_timed h (fun _ _ => rfl) ‹_›
  · exact request_of_three h (fun _ _ _ => rfl) ‹_›
  · exact request_of_one h (fun _ => rfl) ‹_›
  · exact request_of_one h (fun _ => rfl) ‹_›
  next hk =>
    split at h
    · cases h
      rw [BitVec.eq_of_toNat_eq (y := 0x21) hk]
      simp [Instr.request?, bytes_quadOf]
    · cases h
  next hk =>
    split at h
    · cases h
      rw [BitVec.eq_of_toNat_eq (y := 0x22) hk]
      simp [Instr.request?, bytes_halfOf]
    · cases h
  · exact request_of_one h (fun _ => rfl) ‹_›
  next hk =>
    split at h
    · cases h
      rw [BitVec.eq_of_toNat_eq (y := 0x24) hk]
      simp [Instr.request?, bytes_halfOf]
    · cases h
  · exact request_of_one h (fun _ => rfl) ‹_›
  · exact request_of_three h (fun _ _ _ => rfl) ‹_›
  next hk =>
    split at h
    · cases h
      rw [BitVec.eq_of_toNat_eq (y := 0x31) hk]
      simp [Instr.request?, bytes_halfOf, bytes_posOf]
    · cases h
  · exact request_of_one h (fun _ => rfl) ‹_›
  · exact request_of_run1 h (fun _ _ => rfl) ‹_›
  · exact request_of_one h (fun _ => rfl) ‹_›
  · exact request_of_timed h (fun _ _ => rfl) ‹_›
  · exact request_of_three h (fun _ _ _ => rfl) ‹_›
  · exact request_of_one h (fun _ => rfl) ‹_›
  next hk =>
    split at h
    · cases h
      rw [BitVec.eq_of_toNat_eq (y := 0x40) hk]
      rfl
    · cases h
  · exact request_of_two h (fun _ _ => rfl) ‹_›
  · exact request_of_two h (fun _ _ => rfl) ‹_›
  · exact request_of_two h (fun _ _ => rfl) ‹_›
  · exact request_of_bare h rfl ‹_›
  next hk =>
    split at h
    · cases h
      rw [BitVec.eq_of_toNat_eq (y := 0x50) hk]
      simp [Instr.request?, DescriptorRecord.bytes, bytes_halfOf, bytes_quadOf]
    · cases h
  · exact request_of_one h (fun _ => rfl) ‹_›
  · exact request_of_two h (fun _ _ => rfl) ‹_›
  · exact request_of_two h (fun _ _ => rfl) ‹_›
  · exact request_of_two h (fun _ _ => rfl) ‹_›
  · exact request_of_one h (fun _ => rfl) ‹_›
  · exact request_of_one h (fun _ => rfl) ‹_›
  · exact request_of_bare h rfl ‹_›
  next hk =>
    split at h
    next n d a b c e v z l1 l0 data =>
      split at h
      next hlen =>
        cases h
        rw [BitVec.eq_of_toNat_eq (y := 0x61) hk, Instr.request?, ← hlen, BitVec.ofNat_toNat, BitVec.setWidth_eq]
        simp [bytes_halfOf, bytes_quadOf]
      · cases h
    · cases h
  · exact request_of_answer h (fun _ _ _ _ => rfl) ‹_›
  · exact request_of_bare h rfl ‹_›
  · exact request_of_answer h (fun _ _ _ _ => rfl) ‹_›
  next hk =>
    split at h
    next r rest =>
      obtain ⟨steps, hsteps, rfl⟩ := Option.map_eq_some_iff.1 h
      rw [BitVec.eq_of_toNat_eq (y := 0x70) hk, Instr.request?, bytes_stepRecords hsteps]
    · cases h
  · exact request_of_run1 h (fun _ _ => rfl) ‹_›
  · exact request_of_one h (fun _ => rfl) ‹_›
  · exact request_of_one h (fun _ => rfl) ‹_›
  · exact request_of_two h (fun _ _ => rfl) ‹_›
  · exact request_of_one h (fun _ => rfl) ‹_›
  · exact request_of_one h (fun _ => rfl) ‹_›
  next hk =>
    split at h
    · cases h
      rw [BitVec.eq_of_toNat_eq (y := 0x80) hk]
      simp [Instr.request?, bytes_halfOf]
    · cases h
  · exact request_of_two h (fun _ _ => rfl) ‹_›
  · exact request_of_one h (fun _ => rfl) ‹_›
  next hk =>
    split at h
    · cases h
      rw [BitVec.eq_of_toNat_eq (y := 0x83) hk]
      rfl
    · cases h
  · exact request_of_bare h rfl ‹_›
  · cases h

end Shapes

section Answers

variable {s : State} {i : Instr} {f : RequestFrame}

/-! ## Frames read back -/

/-- A request whose body fits a frame is well formed. -/
theorem wellFormed_of_fits (hf : i.request? = some f) (hfit : f.body.length ≤ 4160) : i.wellFormed = true := by
  have hfits (n : Nat) (h : n = f.body.length) : fitsFrame n = true := by
    rw [fitsFrame, decide_eq_true_eq]
    omega
  cases i with
  | sendConsole =>
    cases hf
    exact hfits _ (Nat.add_comm _ _)
  | setPattern =>
    cases hf
    exact hfits _ (Nat.add_comm _ _)
  | fill =>
    cases hf
    refine hfits _ ?_
    simp only [List.length_cons, List.length_append, Quad.bytes, Half.bytes, List.length_nil]
    omega
  | writeRecipe =>
    cases hf
    refine hfits _ ?_
    rw [List.length_cons, stepRecords_length, Nat.add_comm]
  | writeKeyString =>
    cases hf
    exact hfits _ (Nat.add_comm _ _)
  | linkOtherTransaction => cases hf
  | _ => rfl

/-- A well-formed request's frame fits, and the catalogue reads the request from it. -/
theorem frame_statement : Laws.Frame.Statement i := by
  cases i with
  | partReset => apply Laws.Frame.partReset
  | channelReset => apply Laws.Frame.channelReset
  | identify => apply Laws.Frame.identify
  | cut => apply Laws.Frame.cut
  | supply => apply Laws.Frame.supply
  | pressButton => apply Laws.Frame.pressButton
  | pulseReset => apply Laws.Frame.pulseReset
  | setPowerSettings => apply Laws.Frame.setPowerSettings
  | powerStatus => apply Laws.Frame.powerStatus
  | relearnBaud => apply Laws.Frame.relearnBaud
  | setBaudMode => apply Laws.Frame.setBaudMode
  | setBaudSettings => apply Laws.Frame.setBaudSettings
  | baudStatus => apply Laws.Frame.baudStatus
  | setHeartbeatSettings => apply Laws.Frame.setHeartbeatSettings
  | heartbeatStatus => apply Laws.Frame.heartbeatStatus
  | setCaptureLimits => apply Laws.Frame.setCaptureLimits
  | consoleRead => apply Laws.Frame.consoleRead
  | consoleStatus => apply Laws.Frame.consoleStatus
  | sendConsole => apply Laws.Frame.sendConsole
  | flushConsoleTx => apply Laws.Frame.flushConsoleTx
  | sendBreak => apply Laws.Frame.sendBreak
  | setTransmitSettings => apply Laws.Frame.setTransmitSettings
  | transmitStatus => apply Laws.Frame.transmitStatus
  | setPattern => apply Laws.Frame.setPattern
  | armMatch => apply Laws.Frame.armMatch
  | disarmMatch => apply Laws.Frame.disarmMatch
  | readMatch => apply Laws.Frame.readMatch
  | poolStatus => apply Laws.Frame.poolStatus
  | loadDrive => apply Laws.Frame.loadDrive
  | unloadDrive => apply Laws.Frame.unloadDrive
  | insert => apply Laws.Frame.insert
  | eject => apply Laws.Frame.eject
  | setPortPresence => apply Laws.Frame.setPortPresence
  | driveStatus => apply Laws.Frame.driveStatus
  | portStatus => apply Laws.Frame.portStatus
  | takeWants => apply Laws.Frame.takeWants
  | fill => apply Laws.Frame.fill
  | fillFailed => apply Laws.Frame.fillFailed
  | takeSpill => apply Laws.Frame.takeSpill
  | spillDone => apply Laws.Frame.spillDone
  | writeRecipe => apply Laws.Frame.writeRecipe
  | writeKeyString => apply Laws.Frame.writeKeyString
  | readRecipe => apply Laws.Frame.readRecipe
  | readKeyString => apply Laws.Frame.readKeyString
  | runRecipe => apply Laws.Frame.runRecipe
  | stopRecipe => apply Laws.Frame.stopRecipe
  | runStatus => apply Laws.Frame.runStatus
  | setTrigger => apply Laws.Frame.setTrigger
  | rearmTrigger => apply Laws.Frame.rearmTrigger
  | triggerStatus => apply Laws.Frame.triggerStatus
  | setNoticeMask => apply Laws.Frame.setNoticeMask
  | readChanges => apply Laws.Frame.readChanges
  | _ => exact Laws.Frame.of_none rfl

theorem readFrame_of_request (hf : i.request? = some f) (hw : i.wellFormed = true) : readFrame f.bytes = some i := by
  obtain ⟨hfit, hread⟩ := frame_statement f hf hw
  rw [readFrame_bytes f hfit, hread]

/-- Bytes that are read as a request are that request's frame. -/
theorem request_of_readFrame {bytes : List Byte} (h : readFrame bytes = some i) :
    ∃ f : RequestFrame, i.request? = some f ∧ f.body.length ≤ 4160 ∧ f.bytes = bytes := by
  unfold readFrame at h
  split at h
  next kind tag l1 l0 rest =>
    dsimp only at h
    split at h
    next hlen =>
      rw [Bool.and_eq_true, fitsFrame, decide_eq_true_eq, beq_iff_eq] at hlen
      obtain ⟨hfit, hlen⟩ := hlen
      split at h
      next hcrc =>
        have htake : (rest.take (halfOf l1 l0).toNat).length = (halfOf l1 l0).toNat := by
          rw [List.length_take]
          omega
        refine ⟨_, request_of_requestOf h, by rw [htake]; exact hfit, ?_⟩
        have hbytes : Half.bytes (BitVec.ofNat 16 (halfOf l1 l0).toNat) = [l1, l0] := by
          rw [BitVec.ofNat_toNat, BitVec.setWidth_eq, bytes_halfOf]
        simp only [RequestFrame.bytes, htake, hbytes, List.cons_append, List.nil_append]
        rw [← hcrc, List.take_append_drop]
      · cases h
    · cases h
  · cases h

/-- Settles O51: the catalogue's reader inverts the frame of every well-formed request, and what it reads has that
frame. -/
theorem framesReadBackAsTheirRequests : Obligations.FramesReadBackAsTheirRequests := by
  refine ⟨fun i f hw hf => ⟨readFrame_of_request hf hw, fun s => ?_⟩, fun bytes i h => ?_⟩
  · rw [exec_of_request hf]
    refine congrArg Host.Outcome.next ?_
    rw [readFrame_of_request hf hw]
  · obtain ⟨f, hf, hfit, hbytes⟩ := request_of_readFrame h
    exact ⟨wellFormed_of_fits hf hfit, f, hf, hbytes⟩

/-! ## One answer to each request -/

/-- Of all requests, Part Reset has the kind 0x02. -/
theorem kind_partReset (hf : i.request? = some f) (hw : i.wellFormed = true) :
    f.kind = 0x02 ↔ ∃ tag, i = .partReset tag := by
  constructor
  · intro hk
    have hread := (frame_statement f hf hw).2
    rw [hk] at hread
    change bare (.partReset f.tag) f.body = some i at hread
    unfold bare at hread
    split at hread
    · exact ⟨f.tag, (Option.some.inj hread).symm⟩
    · cases hread
  · rintro ⟨tag, rfl⟩
    cases hf
    rfl

/-- Every command has a next state. -/
theorem exec_next (i : Instr) (s : State) : ∃ t, exec i s = .next t := by
  cases i with
  | _ => exact ⟨_, rfl⟩

/-- A request that is taken: Part Reset's rule empties the reply queue, no other rule writes the link. -/
theorem takeRequest_link (hf : i.request? = some f) (hw : i.wellFormed = true) (hr : s.ready = true) :
    ∃ st body, (takeRequest i (handlerOf i) s).link.replies =
        (if f.kind = 0x02 then [] else s.link.replies) ++ [⟨f.kind, f.tag, st, body⟩] ∧
      (takeRequest i (handlerOf i) s).link.reject = false ∧
      (takeRequest i (handlerOf i) s).link.shiftedOut = s.statusByte :: List.replicate (6 + f.body.length) 0 := by
  have hfit : fitsFrame f.body.length = true := decide_eq_true (frame_statement f hf hw).1
  rw [takeRequest_ready hf hr hfit]
  let answer := (handlerOf i (shiftOut (List.replicate (6 + f.body.length) 0) s)).2
  refine ⟨answer.status, answer.body, ?_⟩
  by_cases hk : f.kind = 0x02
  · obtain ⟨tag, rfl⟩ := (kind_partReset hf hw).1 hk
    rw [if_pos hk]
    exact ⟨rfl, rfl, rfl⟩
  · have hlink := (keeps_handlerOf i (fun tag h => hk ((kind_partReset hf hw).2 ⟨tag, h⟩))
      (shiftOut (List.replicate (6 + f.body.length) 0) s)).link
    rw [if_neg hk, appendReply_link, hlink, shiftOut_link]
    exact ⟨rfl, rfl, rfl⟩

/-- Settles O52: no rule of a request writes the link but Part Reset's, and no event does. -/
theorem eachRequestIsAnsweredOnceOrIgnored : Obligations.EachRequestIsAnsweredOnceOrIgnored := by
  refine fun i s => ⟨fun f hf hw => ⟨fun hr => ?_, fun hr => ?_⟩, fun hf hbad hread hother hreset => ?_⟩
  · obtain ⟨st, body, h⟩ := takeRequest_link hf hw hr
    exact ⟨_, st, body, exec_of_request hf, h⟩
  · rw [exec_of_request hf, takeRequest_ignored hf hr]
  · obtain ⟨t, ht⟩ := exec_next i s
    have hi : onLink i = false := by
      cases i with
      | powerOnReset p => exact absurd rfl (hreset p)
      | badFrame l => exact absurd rfl (hbad l)
      | replyRead n => exact absurd rfl (hread n)
      | linkOtherTransaction b n => exact absurd rfl (hother b n)
      | _ => simp [onLink, hf]
    exact ⟨t, ht, (nextKeeps_of_event i s hi t ht).link⟩

/-- Settles O49: a bad frame is discarded after its bytes have been shifted in. -/
theorem badFramesOnlySetReject : Obligations.BadFramesOnlySetReject := by
  intro s bytes h
  refine congrArg Host.Outcome.next ?_
  rw [h]
  rfl

end Answers

end Sys2Proof.Machine

/-! # Rates, image pages and stored steps -/

namespace Sys2Proof.Machine

section Rates

variable {m : Nat} {r : RateIx}

/-! ## The nearest rate (R23) -/

theorem rateError_eq_natAbs (m : Nat) (k : RateIx) : rateError m k = ((m * tableRate k : Int) - 64000000).natAbs := by
  have hcast : (m * tableRate k : Int) = ((m * tableRate k : Nat) : Int) := (Nat.cast_mul _ _).symm
  rw [hcast, rateError, tickRate]
  omega

/-- Of rates in rising order, the search keeps the first whose error is the smallest. -/
theorem nearest_of_least {best : RateIx} {l : List RateIx} (hsorted : (best :: l).Pairwise (· ≤ ·))
    (hr : r ∈ best :: l)
    (hleast : ∀ k ∈ best :: l, rateError m r < rateError m k ∨ rateError m r = rateError m k ∧ r ≤ k) :
    nearest m best l = r := by
  induction l generalizing best with
  | nil => exact (List.mem_singleton.1 hr).symm
  | cons x rest ih =>
    obtain ⟨hbest, hrest⟩ := List.pairwise_cons.1 hsorted
    have hbestLeast := hleast best List.mem_cons_self
    have hxLeast := hleast x (List.mem_cons_of_mem _ List.mem_cons_self)
    unfold nearest
    by_cases hlt : rateError m x < rateError m best
    · rw [if_pos hlt]
      refine ih hrest ?_ fun k hk => hleast k (List.mem_cons_of_mem _ hk)
      refine (List.mem_cons.1 hr).resolve_left ?_
      rintro rfl
      omega
    · rw [if_neg hlt]
      refine ih ?_ ?_ fun k hk => hleast k ?_
      · exact List.pairwise_cons.2 ⟨fun k hk => hbest k (List.mem_cons_of_mem _ hk), (List.pairwise_cons.1 hrest).2⟩
      · rcases List.mem_cons.1 hr with rfl | hr
        · exact List.mem_cons_self
        · rcases List.mem_cons.1 hr with rfl | hr
          · have hle : r ≤ best := by
              obtain h | ⟨-, h⟩ := hbestLeast
              · exact absurd h hlt
              · exact h
            exact le_antisymm hle (hbest r List.mem_cons_self) ▸ List.mem_cons_self
          · exact List.mem_cons_of_mem _ hr
      · rcases List.mem_cons.1 hk with rfl | hk
        · exact List.mem_cons_self
        · exact List.mem_cons_of_mem _ (List.mem_cons_of_mem _ hk)

theorem candidateOf_of_least (hleast : ∀ k, rateError m r < rateError m k ∨ rateError m r = rateError m k ∧ r ≤ k) :
    candidateOf m = r :=
  nearest_of_least (by decide) (List.mem_cons_of_mem _ (List.mem_finRange r)) fun k _ => hleast k

/-! ## The divisor (R24) -/

theorem divisorOf_bounds {n : Nat} (hlo : 300 ≤ n) (hhi : n ≤ 1000000) :
    2 * divisorOf n * n ≤ 512000000 + n ∧ 512000000 < 2 * divisorOf n * n + n ∧
      256 ≤ divisorOf n ∧ divisorOf n ≤ 853333 := by
  have hpos : 0 < 2 * n := by omega
  have hle : 2 * divisorOf n * n ≤ 512000000 + n := by
    have h := Nat.div_mul_le_self (2 * 256000000 + n) (2 * n)
    calc 2 * divisorOf n * n = (2 * 256000000 + n) / (2 * n) * (2 * n) := by unfold divisorOf; ring
      _ ≤ 512000000 + n := h
  have hlt : 512000000 + n < 2 * divisorOf n * n + 2 * n := by
    have h := Nat.lt_div_mul_add (a := 2 * 256000000 + n) hpos
    calc 512000000 + n < (2 * 256000000 + n) / (2 * n) * (2 * n) + 2 * n := h
      _ = 2 * divisorOf n * n + 2 * n := by unfold divisorOf; ring
  refine ⟨hle, by omega, ?_, ?_⟩
  · exact (Nat.le_div_iff_mul_le hpos).2 (by omega)
  · exact Nat.le_of_lt_succ ((Nat.div_lt_iff_lt_mul hpos).2 (by omega))

/-- Settles O14: the search of the eleven rates, and a rounded quotient between its two neighbours. -/
theorem theVerdictTakesTheNearestRate : Obligations.TheVerdictTakesTheNearestRate := by
  refine ⟨?_, fun r hlo hhi => divisorOf_bounds hlo hhi, by decide⟩
  intro q m t r error hleast
  have herror (k : RateIx) : error k = rateError m k := (rateError_eq_natAbs m k).symm
  simp only [herror] at hleast ⊢
  unfold verdictOf
  dsimp only
  rw [candidateOf_of_least hleast]
  rfl

end Rates

section Images

variable {k : Descriptor}

/-! ## Image pages (R102) -/

theorem blocksPerPage_eq (h : k.blockSize = 512 ∨ k.blockSize = 4096) :
    k.blocksPerPage = if k.blockSize = 512 then 8 else 1 := by
  unfold Descriptor.blocksPerPage
  rcases h with h | h <;> rw [h] <;> rfl

theorem imagePages_bounds (hb : 1 ≤ k.blocksPerPage) (hc : 1 ≤ k.capacity) :
    1 ≤ k.imagePages ∧ (k.imagePages - 1) * k.blocksPerPage < k.capacity ∧
      k.capacity ≤ k.imagePages * k.blocksPerPage := by
  have hle := Nat.div_mul_le_self (k.capacity + k.blocksPerPage - 1) k.blocksPerPage
  have hlt := Nat.lt_div_mul_add (a := k.capacity + k.blocksPerPage - 1) hb
  have hpos : 1 ≤ k.imagePages := (Nat.le_div_iff_mul_le hb).2 (by omega)
  change k.imagePages * _ ≤ _ at hle
  change _ < k.imagePages * _ + _ at hlt
  refine ⟨hpos, ?_, by omega⟩
  rw [Nat.sub_mul, Nat.one_mul]
  omega

theorem valid_eq (hn : 1 ≤ k.imagePages) (i : Nat) :
    k.valid i = if i = k.imagePages - 1 then k.lastValid else k.blocksPerPage :=
  if_congr (by omega) rfl rfl

/-- Settles O28: the image pages are the capacity's blocks in rows of blocks per page. -/
theorem theImageGeometryCoversTheCapacity : Obligations.TheImageGeometryCoversTheCapacity := by
  intro k hsize hc b n
  have hb : b = if k.blockSize = 512 then 8 else 1 := blocksPerPage_eq hsize
  have hpos : 1 ≤ b := by
    rw [hb]
    split <;> decide
  obtain ⟨hn, hlow, hhigh⟩ := imagePages_bounds hpos hc
  have hlast : k.lastValid = k.capacity - (n - 1) * b := rfl
  have hrow : n * b = (n - 1) * b + b := by
    rw [← Nat.succ_mul, Nat.succ_eq_add_one, Nat.sub_add_cancel hn]
  change (n - 1) * b < _ at hlow
  change _ ≤ n * b at hhigh
  refine ⟨hb, hlow, hhigh, hlast, by omega, by omega, fun i _ => valid_eq hn i, fun block hblock => ?_⟩
  have hpage : block / b < n := (Nat.div_lt_iff_lt_mul hpos).2 (by omega)
  have hmod : block % b < b := Nat.mod_lt _ hpos
  refine ⟨hpage, ?_⟩
  rw [valid_eq hn]
  split
  next heq =>
    have hsplit : block / b * b + block % b = block := Nat.div_add_mod' block b
    rw [heq] at hsplit
    change (n - 1) * b + _ = _ at hsplit
    omega
  · exact hmod

end Images

section Steps

/-! ## Stored steps (R144) -/

theorem clamp_mem {lo hi : Nat} (h : lo ≤ hi) (n : Nat) : lo ≤ clamp lo hi n ∧ clamp lo hi n ≤ hi := by
  unfold clamp
  omega

/-- A parameter within its range is taken from its own four bytes as itself. -/
theorem clamp_ofNat {lo hi n : Nat} (hn : lo ≤ n ∧ n ≤ hi) (hhi : hi < 4294967296) :
    clamp lo hi (BitVec.ofNat 32 n).toNat = n := by
  rw [BitVec.toNat_ofNat, Nat.mod_eq_of_lt (by omega)]
  unfold clamp
  omega

theorem takenInterval_mem (q : Quad) : takenInterval q = 0 ∨ 50 ≤ takenInterval q ∧ takenInterval q ≤ 10000 := by
  unfold takenInterval
  split
  · exact .inl rfl
  · exact .inr (clamp_mem (by decide) _)

theorem takenInterval_ofNat {n : Nat} (hn : n = 0 ∨ 50 ≤ n ∧ n ≤ 10000) : takenInterval (BitVec.ofNat 32 n) = n := by
  obtain rfl | hn := hn
  · rfl
  · have hpos : BitVec.ofNat 32 n ≠ 0 := by
      intro heq
      have hzero := congrArg BitVec.toNat heq
      rw [BitVec.toNat_ofNat, Nat.mod_eq_of_lt (by omega)] at hzero
      change n = 0 at hzero
      omega
    rw [takenInterval, if_neg hpos, clamp_ofNat hn (by decide)]

theorem index?_ofNat {n : Nat} (hn : n ≤ 4294967296) (i : Fin n) : index? n (BitVec.ofNat 32 i.val) = some i := by
  have hi : (BitVec.ofNat 32 i.val).toNat = i.val := by
    rw [BitVec.toNat_ofNat, Nat.mod_eq_of_lt (by omega)]
  unfold index?
  rw [dif_pos (hi.symm ▸ i.isLt :)]
  exact congrArg some (Fin.ext hi)

/-- A step timeout, in units of 100 ms, in R144's range. -/
def TimeInRange (t : Nat) : Prop := 1 ≤ t ∧ t ≤ 6000

theorem takenStepTime_mem (q : Quad) : TimeInRange (takenStepTime q) := clamp_mem (by decide) _

theorem takenStepTime_ofNat {t : Nat} (ht : TimeInRange t) : takenStepTime (BitVec.ofNat 32 t) = t :=
  clamp_ofNat ht (by decide)

/-- The parameters of a stored step are in the ranges of R144. -/
def RecipeStep.InRange : RecipeStep → Prop
  | .pressButton d => 20 ≤ d ∧ d ≤ 20000
  | .pulseReset d => 10 ≤ d ∧ d ≤ 5000
  | .waitPower _ t => TimeInRange t
  | .waitMatch _ t => TimeInRange t
  | .waitActivity n t => (1 ≤ n ∧ n ≤ 65535) ∧ TimeInRange t
  | .waitQuiet q t => (100 ≤ q ∧ q ≤ 60000) ∧ TimeInRange t
  | .waitHeartbeat t => TimeInRange t
  | .delay d => 1 ≤ d ∧ d ≤ 600000
  | .sendKeys _ n => n = 0 ∨ 50 ≤ n ∧ n ≤ 10000
  | .sendBreak d => 10 ≤ d ∧ d ≤ 2550
  | .branch _ t => t < 16
  | .finish n => 0 ≤ n ∧ n ≤ 255
  | _ => True

/-- A record is stored as a step of its own kind, with its parameters in range. -/
theorem inRange_of_stepOf {r : StepRecord} {x : RecipeStep} (h : stepOf r = some x) :
    x.InRange ∧ x.code = r.kind.toNat := by
  unfold stepOf at h
  split at h
  case h_5 | h_6 | h_7 | h_12 | h_16 | h_19 | h_20 =>
    obtain ⟨i, -, rfl⟩ := Option.map_eq_some_iff.1 h
    refine ⟨?_, Eq.symm ‹_›⟩
    simp only [RecipeStep.InRange, takenStepTime_mem, takenInterval_mem]
  case h_17 hk =>
    obtain ⟨d, -, hf⟩ := Option.bind_eq_some_iff.1 h
    obtain ⟨f, -, rfl⟩ := Option.map_eq_some_iff.1 hf
    exact ⟨trivial, hk.symm⟩
  case h_18 hk =>
    obtain ⟨o, -, ht⟩ := Option.bind_eq_some_iff.1 h
    obtain ⟨t, -, rfl⟩ := Option.map_eq_some_iff.1 ht
    exact ⟨t.isLt, hk.symm⟩
  case h_22 => cases h
  all_goals
    cases h
    refine ⟨?_, Eq.symm ‹_›⟩
    simp only [RecipeStep.InRange, takenStepTime_mem, clamp_mem, Nat.reduceLeDiff, and_self]

theorem outcomeOf_code (o : StepOutcome) : ∃ i, outcomeOf i = o ∧ i.val = o.code := by
  cases o
  exacts [⟨0, rfl, rfl⟩, ⟨1, rfl, rfl⟩, ⟨2, rfl, rfl⟩, ⟨3, rfl, rfl⟩]

/-- A step with its parameters in range is taken again from its own record. -/
theorem stepOf_of_inRange {x : RecipeStep} (h : x.InRange) :
    stepOf ⟨BitVec.ofNat 8 x.code, BitVec.ofNat 32 x.parameters.1, BitVec.ofNat 32 x.parameters.2⟩ = some x := by
  have hindex {n : Nat} (hn : n ≤ 4294967296) (i : Fin n) := index?_ofNat hn i
  cases x with
  | cutPower | supplyPower | stopKeys | relearnBaud => rfl
  | pressButton | pulseReset | delay | sendBreak | finish =>
    exact congrArg _ (congrArg _ (clamp_ofNat h (by decide)))
  | waitHeartbeat => exact congrArg _ (congrArg _ (takenStepTime_ofNat h))
  | waitActivity | waitQuiet =>
    exact congrArg _ (congrArg₂ _ (clamp_ofNat h.1 (by decide)) (takenStepTime_ofNat h.2))
  | waitPower on t =>
    change (index? 2 _).map (fun i => RecipeStep.waitPower (decide (i = 0)) (takenStepTime (BitVec.ofNat 32 t))) = _
    rw [takenStepTime_ofNat h]
    cases on <;> rfl
  | waitMatch u t =>
    change (index? 4 _).map (fun u => RecipeStep.waitMatch u (takenStepTime (BitVec.ofNat 32 t))) = _
    rw [takenStepTime_ofNat h]
    exact congrArg _ (hindex (by decide) u)
  | sendKeys k n =>
    change (index? 8 _).map (fun k => RecipeStep.sendKeys k (takenInterval (BitVec.ofNat 32 n))) = _
    rw [takenInterval_ofNat h]
    exact congrArg _ (hindex (by decide) k)
  | armMatch u => exact congrArg (Option.map RecipeStep.armMatch) (hindex (n := 4) (by decide) u)
  | insertMedia d => exact congrArg (Option.map RecipeStep.insertMedia) (hindex (n := 4) (by decide) d)
  | call k => exact congrArg (Option.map RecipeStep.call) (hindex (n := 8) (by decide) k)
  | ejectMedia d f =>
    change (index? 4 (BitVec.ofNat 32 d.val)).bind _ = _
    rw [hindex (by decide) d]
    cases f <;> rfl
  | branch o t =>
    obtain ⟨i, rfl, hi⟩ := outcomeOf_code o
    change (index? 4 (BitVec.ofNat 32 (outcomeOf i).code)).bind (fun o =>
      (index? 16 (BitVec.ofNat 32 t)).map fun t => RecipeStep.branch (outcomeOf o) t.val) = _
    rw [← hi, hindex (by decide) i, hindex (by decide) (⟨t, h⟩ : Fin 16)]
    rfl
  | ret p => cases p <;> rfl

/-- Settles O41: a stored step's parameters are in range, so that taking them again clamps nothing. -/
theorem storedStepsReadBackAsThemselves : Obligations.StoredStepsReadBackAsThemselves := by
  refine fun r => ⟨fun x hx => ?_, fun hkind => ?_⟩
  · obtain ⟨hrange, hcode⟩ := inRange_of_stepOf hx
    refine ⟨stepOf_of_inRange hrange, ?_⟩
    rw [hcode, BitVec.ofNat_toNat, BitVec.setWidth_eq]
  · cases hx : stepOf r with
    | none => rfl
    | some x =>
      obtain ⟨-, hcode⟩ := inRange_of_stepOf hx
      have hbounds : 1 ≤ x.code ∧ x.code ≤ 21 := by cases x <;> simp [RecipeStep.code]
      obtain hzero | hmore := hkind
      · rw [hzero] at hcode
        change x.code = 0 at hcode
        omega
      · omega

end Steps

end Sys2Proof.Machine

/-! # The status and read requests -/

namespace Sys2Proof.Machine

section Reads

variable {s : State} {a b : Byte} {i : Instr} {f : RequestFrame} {h : Handler}

/-! ## A request that only reads -/

/-- The answer of a request that only reads: its record, or BAD_VALUE where what it names does not exist. -/
def recordAnswer : Option (List Byte) → Answer
  | none => ⟨.badValue, []⟩
  | some l => ⟨.ok, l⟩

/-- The state after such a request. -/
def State.recordReplied (s : State) (i : Instr) : Option (List Byte) → State
  | none => s.answered i s .badValue []
  | some l => s.answered i s .ok l

theorem exec_reads (record : State → Option (List Byte)) (hh : ∀ t, h t = (t, recordAnswer (record t)))
    (hrecord : ∀ l, record (shiftOut l s) = record s) (hx : exec i s = .next (takeRequest i h s))
    (hf : i.request? = some f) (hr : s.ready = true) (hfit : fitsFrame f.body.length = true) :
    exec i s = .next (s.recordReplied i (record s)) := by
  rw [hx]
  refine congrArg Host.Outcome.next ?_
  have answered (st : Status) (body : List Byte) (hst : recordAnswer (record s) = ⟨st, body⟩) :
      takeRequest i h s = s.answered i s st body :=
    takeRequest_answered (t := s) hf hr hfit (by rw [hh, hrecord, hst]; rfl)
  cases hs : record s with
  | none => exact answered _ _ (by rw [hs]; rfl)
  | some l => exact answered _ _ (by rw [hs]; rfl)

theorem onChannel_reads (g : State → Channel → List Byte) (t : State) :
    onChannel a (fun c s => done s (g s c)) t = (t, recordAnswer ((ident? 8 a).map (g t))) := by
  cases hc : ident? 8 a with
  | none => exact onChannel_none hc
  | some c => exact onChannel_some hc

theorem onDrive_reads (g : State → DriveNo → List Byte) (t : State) :
    onDrive a (fun d s => done s (g s d)) t = (t, recordAnswer ((ident? 4 a).map (g t))) := by
  cases hd : ident? 4 a with
  | none => exact onDrive_none hd
  | some d => exact onDrive_some hd

theorem onEight_reads (g : State → Fin 8 → List Byte) (t : State) :
    onEight a (fun k s => done s (g s k)) t = (t, recordAnswer ((ident? 8 a).map (g t))) := by
  unfold onEight
  cases ident? 8 a <;> rfl

end Reads

section Records

variable {s : State}

/-! ## The records, as the handlers write them -/

theorem putMode_eq (v : FinderState) : put1 v.mode = put1 (if v = .fixed then 1 else 0) := by
  cases v <;> rfl

/-- The record of a channel's power, as Power Status replies it (R16, 11.6). -/
def State.powerRecord (s : State) (c : Channel) : List Byte :=
  let p := (s.chan c).power
  put1 p.state.code ++
    put1 (putBits [p.button.isSome, p.reset.isSome, p.state.pen, p.pgRaw, p.pendingSupply, p.locked]) ++
    put2 (s.holdoffLeft c) ++ put2 (s.pulseLeft p.button) ++ put2 (s.pulseLeft p.reset) ++
    put1 p.lastCause.code ++ p.lastCauseAt.bytes ++ put1 p.qualifyTime ++ put1 p.minimumOff

/-- The Baud Status handler writes R32's record. -/
theorem hostBaudStatus_eq (a : Byte) :
    hostBaudStatus a = onChannel a fun c s => done s ((s.chan c).finder.record s.now (s.unstated 0)) := by
  unfold hostBaudStatus
  congr 1
  funext c s
  have hverdict (free : Byte) (v : Verdict) : v.bytes free = match v with
      | .sparse => [0, free]
      | .outOfTolerance => [1, free]
      | .candidate r => [2, BitVec.ofNat 8 r.val]
      | .none => [3, free] := by cases v <;> rfl
  simp only [putMode_eq, Finder.record, WindowFigures.bytes, hverdict, FinderSettings.bytes, List.append_assoc]
  rfl

/-- The Heartbeat Status handler writes R40's record. -/
theorem hostHeartbeatStatus_eq (a : Byte) : hostHeartbeatStatus a = onChannel a fun c s =>
    done s ((s.chan c).watch.record s.now (decide ((s.chan c).power.state = .on))) := by
  unfold hostHeartbeatStatus
  congr 1
  funext c s
  have hgate : putChoice2 (gateOpen c s) = put1 (if (s.chan c).watch.settings.enable = true ∧
      decide ((s.chan c).power.state = .on) = true then 0 else 1) := by
    unfold putChoice2 gateOpen State.powered
    cases (s.chan c).watch.settings.enable <;> cases (s.chan c).power.state <;> rfl
  have hlevel (v : Bool) : putChoice2 v = put1 (if v = true then 0 else 1) := by cases v <;> rfl
  have helapsed (w : Watch) : cap2 (if w.state = .idle then 0 else s.elapsed w.windowStart) =
      put2 (if w.state = .idle then 0 else min ((s.now - w.windowStart) / 256000) 65535) := by
    unfold cap2
    split <;> rfl
  simp only [hgate, hlevel, helapsed, Watch.record, WatchSettings.bytes, List.append_assoc]

/-- The Console Status handler writes R56's record. -/
theorem hostConsoleStatus_eq (a : Byte) :
    hostConsoleStatus a = onChannel a fun c s => done s (s.chan c).storeRecord := by
  unfold hostConsoleStatus
  congr 1
  funext c s
  simp only [putMode_eq, ChannelState.storeRecord, List.append_assoc]
  rfl

theorem txState_code (s : State) (c : Channel) : (s.txState c).code =
    if (s.chan c).power.state ≠ .on then 0 else if (s.chan c).tx.breaking then 3
    else if (s.chan c).tx.char.isSome then 2 else if (s.chan c).tx.hold.isSome then 4 else 1 := by
  unfold State.txState Transmitter.state State.powered
  by_cases hon : (s.chan c).power.state = .on
  · simp only [hon, decide_true, Bool.not_true, Bool.false_eq_true, if_false, ne_eq, not_true_eq_false, apply_ite TxState.code]
    rfl
  · simp [hon, TxState.code]

theorem putSlot_eq (s : State) (k : Option KeySlot) : s.putSlot k =
    putFlag k.isSome ++
    putItem 2 (k.map fun k => put1 k.number.val ++ put1 k.string.length) ++
    putItem 2 (k.map fun k => put2 k.interval) ++
    putItem 2 (k.map fun k => putFlag k.due ++ putFlag k.spent) ++
    putItem 2 (k.bind fun k => match k.countdown with
      | .none => none
      | .running due => some (put2 (s.remaining due))
      | .frozen left => some (put2 ((left + 255999) / 256000))) ++
    putItem 1 (k.bind fun k => k.progress.map put1) := by
  have hcountdown (x : Countdown) : (s.countdownLeft x).map put2 = match x with
      | .none => none
      | .running due => some (put2 (s.remaining due))
      | .frozen left => some (put2 ((left + 255999) / 256000)) := by cases x <;> rfl
  simp only [State.putSlot, Option.map_bind, Function.comp_def, hcountdown]

theorem putBreak_eq (s : State) (b : Option Break) : s.putBreak b =
    putItem 6 (b.map fun b => putFlag b.since.isSome ++ put2 b.duration ++
      put2 (match b.since with | none => 0 | some since => min b.duration ((s.now - since) / 256000)) ++
      put1 (if b.origin = .run then 1 else 0)) := by
  have horigin (o : Origin) : o.code = if o = .run then 1 else 0 := by cases o <;> rfl
  simp only [State.putBreak, Break.heldMs, horigin, Config.msUnits] <;> rfl

/-- The Transmit Status handler writes R74's record. -/
theorem hostTransmitStatus_eq (a : Byte) :
    hostTransmitStatus a = onChannel a fun c s => done s ((s.chan c).txRecord s) := by
  unfold hostTransmitStatus
  congr 1
  funext c s
  have hhold : cap4 (s.holdElapsed c) = put4 (match (s.chan c).tx.hold with
      | none => 0
      | some since => min ((s.now - since) / 256000) 4294967295) := by
    unfold cap4 State.holdElapsed
    cases (s.chan c).tx.hold <;> rfl
  simp only [txState_code, putSlot_eq, putBreak_eq, hhold, ChannelState.txRecord, List.append_assoc]
  rfl

/-! ### The pool's counts -/

theorem entries_eq_map_get {n : Nat} {α : Type} (t : Table n α) : t.entries = (List.finRange n).map t.get := by
  apply List.ext_getElem
  · rw [t.size, List.length_map, List.length_finRange]
  · intro i h₁ h₂
    rw [List.getElem_map, List.getElem_finRange]
    rfl

theorem countState_add (x y : CacheState) (hne : x ≠ y) (m : List CachePage) :
    countState x m + countState y m = m.countP fun p => decide (p.state ∈ [x, y]) := by
  unfold countState
  induction m with
  | nil => rfl
  | cons p rest ih =>
    simp only [List.countP_cons, ← ih]
    by_cases hx : p.state = x
    · have hy : p.state ≠ y := hx ▸ hne
      simp [hx, hne]
      omega
    · by_cases hy : p.state = y
      · simp [hy, Ne.symm hne]
        omega
      · simp [hx, hy]

theorem countState_eq (x : CacheState) (m : List CachePage) :
    countState x m = m.countP fun p => decide (p.state ∈ [x]) := by
  simp only [countState, List.mem_singleton]

theorem countPages_eq (s : State) (x : CacheState) : s.countPages x = s.pagesIn [x] := by
  unfold State.countPages State.pagesIn
  rw [entries_eq_map_get, List.map_map]
  simp only [Function.comp_def, countState_eq]
  rfl

theorem countPages_add (s : State) (x y : CacheState) (hne : x ≠ y) :
    s.countPages x + s.countPages y = s.pagesIn [x, y] := by
  unfold State.countPages State.pagesIn
  rw [← List.sum_map_add, entries_eq_map_get, List.map_map]
  simp only [Function.comp_def, countState_add x y hne]
  rfl

theorem sumChannels_eq (s : State) (f : ChannelState → Nat) :
    s.sumChannels f = ((List.finRange 8).map fun c => f (s.chan c)).sum := by
  unfold State.sumChannels
  rw [entries_eq_map_get, List.map_map]
  rfl

/-- The Pool Status handler writes R99's counts. -/
theorem hostPoolStatus_eq : hostPoolStatus = fun s => done s s.poolRecord := by
  funext s
  have hcache : s.cachePages = ((List.finRange 4).map fun d => (s.drive d).map.length).sum := by
    unfold State.cachePages
    rw [entries_eq_map_get, List.map_map]
    rfl
  unfold hostPoolStatus
  rw [countPages_add s .spilling .spillingDirty (by decide)]
  simp only [countPages_eq, State.poolRecord, State.margin, State.reclaimable, State.freePages, State.cleanPages,
    State.consolePages, State.unmet, State.floors, sumChannels_eq, hcache]
  rfl

/-! ### Drives and ports -/

theorem countWants_eq (s : State) (d : DriveNo) (taken : Bool) :
    s.countWants d taken = s.wants.countP fun w => decide (w.drive = d ∧ w.taken = taken) := by
  unfold State.countWants
  congr 1
  funext w
  rw [Bool.decide_and]
  rfl

/-- The Drive Status handler writes R122's record. -/
theorem hostDriveStatus_eq (a : Byte) : hostDriveStatus a = onDrive a fun d s => done s (s.driveRecord d) := by
  unfold hostDriveStatus
  congr 1
  funext d s
  dsimp only
  rw [countState_add .spilling .spillingDirty (by decide)]
  simp only [countWants_eq, countState_eq, State.driveRecord]
  rfl

/-- The Port Status handler writes R123's record. -/
theorem hostPortStatus_eq (a : Byte) : hostPortStatus a = onChannel a fun c s => done s (s.portRecord c) := by
  unfold hostPortStatus
  congr 1
  funext c s
  have hvbus (v : Bool) : putChoice2 v = put1 (if v = true then 0 else 1) := by cases v <;> rfl
  have hblocks (k : RequestKind) : k.hasBlocks = decide (k = .readBlocks ∨ k = .writeBlocks) := by
    cases k <;> rfl
  have hrequest : s.putRequest = fun r => put1 r.kind.code ++
      (if r.kind = .readBlocks ∨ r.kind = .writeBlocks then put4 r.lba ++ put1 r.count
        else [s.unstated 0, s.unstated 1, s.unstated 2, s.unstated 3, s.unstated 4]) ++
      put1 r.done ++ put1 (Wait.code r.wait) := by
    funext r
    simp only [State.putRequest, hblocks, decide_eq_true_eq]
  simp only [hvbus, hrequest, State.portRecord]

/-! ### Runs and slots -/

/-- The Read Recipe handler writes a step count and its steps. -/
theorem hostReadRecipe_eq (a : Byte) : hostReadRecipe a = onEight a fun k s => done s (put1 (s.recipe k).length ++
    (s.recipe k).flatMap fun x => put1 x.code ++ put4 x.parameters.1 ++ put4 x.parameters.2) := rfl

/-- The Run Status handler writes R163's record. -/
theorem hostRunStatus_eq (a : Byte) : hostRunStatus a = onChannel a fun c s => done s (s.runRecord c) := by
  unfold hostRunStatus
  congr 1
  funext c s
  have hprogress (w : RunWait) : (s.stepProgress w).map put4 = match w with
      | .activity _ counted => some (put4 counted)
      | .quiet _ since => some (put4 ((s.now - since) / 256000))
      | .delay due => some (put4 (s.remaining due))
      | _ => none := by cases w <;> rfl
  simp only [State.runRecord, Option.map_bind, Function.comp_def, hprogress, putWait, RunResult.bytes, List.append_assoc]
  cases (s.chan c).context.run <;> rfl

theorem putSlotRecord_eq (s : State) (c : Channel) (n : SlotNo) : s.putSlotRecord c n = s.slotRecord c n := by
  simp only [State.putSlotRecord, State.slotRecord, TriggerEvent.bytes, putRecipe, State.slotHoldoff, State.slot,
    List.append_assoc] <;> rfl

/-- The Trigger Status handler writes the four slot records. -/
theorem hostTriggerStatus_eq (a : Byte) : hostTriggerStatus a = onChannel a fun c s =>
    done s ((List.finRange 4).flatMap fun n => s.slotRecord c n) := by
  unfold hostTriggerStatus
  rw [show State.putSlotRecord = State.slotRecord from funext fun s => funext fun c => funext (putSlotRecord_eq s c)]

/-- The Identify handler writes the catalogue's constants and the uptime. -/
theorem hostIdentify_eq :
    hostIdentify = fun s => done s ([0x08, 0x40, 1, 8, 4, 0x02, 0x00, 32, 8] ++ s.uptime.bytes) := rfl

end Records

section Replies

variable {s : State} {a : Byte} {i : Instr} {f : RequestFrame} {h : Handler}

theorem exec_channelRecord (g : State → Channel → List Byte) (hh : h = onChannel a fun c s => done s (g s c))
    (hg : ∀ l, g (shiftOut l s) = g s) (hx : exec i s = .next (takeRequest i h s)) (hf : i.request? = some f)
    (hr : s.ready = true) (hfit : fitsFrame f.body.length = true) :
    exec i s = .next (s.recordReplied i ((ident? 8 a).map (g s))) :=
  exec_reads (fun t => (ident? 8 a).map (g t)) (by rw [hh]; exact onChannel_reads g)
    (fun l => congrArg (fun g => (ident? 8 a).map g) (hg l)) hx hf hr hfit

theorem onUnit_reads {b : Byte} (g : State → Channel → UnitNo → List Byte) (t : State) :
    onUnit a b (fun c u s => done s (g s c u)) t = (t, recordAnswer (match ident? 8 a, ident? 4 b with
      | some c, some u => some (g t c u)
      | _, _ => none)) := by
  cases hc : ident? 8 a with
  | none => exact onChannel_none hc
  | some c =>
    cases hu : ident? 4 b with
    | none => exact (onChannel_some hc).trans (by rw [hu]; rfl)
    | some u => exact onUnit_some hc hu

/-- Settles O53: each handler writes its rule's record and leaves the state. -/
theorem statusRequestsChangeNothing : Obligations.StatusRequestsChangeNothing := by
  refine ⟨fun s tag a b hr => ?_, by decide⟩
  refine ⟨?_, ?_, ?_, ?_, ?_, ?_, ?_, ?_, ?_, ?_, ?_, ?_, ?_, ?_⟩
  · have hpower := exec_channelRecord (a := a) (i := .powerStatus tag a) State.powerRecord rfl (fun _ => rfl) rfl rfl
      hr rfl
    cases hc : ident? 8 a with
    | none => exact ⟨[], hpower.trans (by rw [hc]; rfl)⟩
    | some c => exact ⟨s.powerRecord c, hpower.trans (by rw [hc]; rfl)⟩
  · exact (exec_channelRecord (i := .baudStatus tag a) _ (hostBaudStatus_eq a) (fun _ => rfl) rfl rfl hr rfl :)
  · exact (exec_channelRecord (i := .heartbeatStatus tag a) _ (hostHeartbeatStatus_eq a) (fun _ => rfl) rfl rfl hr rfl :)
  · exact (exec_channelRecord (i := .consoleStatus tag a) _ (hostConsoleStatus_eq a) (fun _ => rfl) rfl rfl hr rfl :)
  · exact (exec_channelRecord (i := .transmitStatus tag a) _ (hostTransmitStatus_eq a) (fun _ => rfl) rfl rfl hr rfl :)
  · exact exec_reads _ (onUnit_reads fun s c u => (s.unit c u).record) (fun _ => rfl) rfl rfl hr rfl
  · exact exec_reads (fun t => some t.poolRecord) (congrFun hostPoolStatus_eq) (fun _ => rfl) rfl rfl hr rfl
  · exact exec_reads (fun t => (ident? 4 a).map t.driveRecord)
      (by rw [hostDriveStatus_eq]; exact onDrive_reads State.driveRecord) (fun _ => rfl) rfl rfl hr rfl
  · exact (exec_channelRecord (i := .portStatus tag a) _ (hostPortStatus_eq a) (fun _ => rfl) rfl rfl hr rfl :)
  · exact exec_reads (fun t => (ident? 8 a).map fun k => put1 (t.recipe k).length ++
      (t.recipe k).flatMap fun x => put1 x.code ++ put4 x.parameters.1 ++ put4 x.parameters.2)
      (onEight_reads _) (fun _ => rfl) rfl rfl hr rfl
  · exact exec_reads (fun t => (ident? 8 a).map fun k => put1 (t.keys.get k).length ++ t.keys.get k)
      (onEight_reads _) (fun _ => rfl) rfl rfl hr rfl
  · exact (exec_channelRecord (i := .runStatus tag a) _ (hostRunStatus_eq a) (fun _ => rfl) rfl rfl hr rfl :)
  · exact (exec_channelRecord (i := .triggerStatus tag a) _ (hostTriggerStatus_eq a) (fun _ => rfl) rfl rfl hr rfl :)
  · exact exec_reads (fun t => some ([0x08, 0x40, 1, 8, 4, 2, 0, 32, 8] ++ t.uptime.bytes)) (congrFun hostIdentify_eq) (fun _ => rfl) rfl rfl hr rfl

theorem putBits_six (a b c d e f : Bool) : putBits [a, b, c, d, e, f] =
    (if a then 1 else 0) + (if b then 2 else 0) + (if c then 4 else 0) + (if d then 8 else 0) +
      (if e then 16 else 0) + (if f then 32 else 0) := by
  revert a b c d e f
  decide

/-- Settles O11: the power record, written by its handler. -/
theorem powerStatusReportsTheRecord : Obligations.PowerStatusReportsTheRecord := by
  intro s tag ch hr i
  refine (exec_channelRecord (a := ch) (i := i) State.powerRecord rfl (fun _ => rfl) rfl rfl hr rfl).trans ?_
  refine congrArg Host.Outcome.next ?_
  cases hc : ident? 8 ch with
  | none => rfl
  | some c =>
    dsimp only [Option.map_some, State.recordReplied, State.powerRecord]
    rw [putBits_six]
    rfl

end Replies

end Sys2Proof.Machine

/-! # A run goes on, a slot fires -/

namespace Sys2Proof.Machine

section RunsGoOn

variable {s : State} {c : Channel}

/-! ## A run that goes on waits or ends (R149, R160) -/

/-- A channel's context is IDLE, or RUNNING in a step that waits with the instant-step count at 0. -/
def State.AtRest (t : State) (c : Channel) : Prop :=
  t.run c = none ∨ ((t.run c).bind (·.wait)).isSome = true ∧ (t.run c).map (·.instants) = some 0

theorem runSteps_zero (r : Run) :
    runSteps c 0 r s = settle c r (fun _ s => endRun c .loop s) (takeStep c r s) := rfl

theorem runSteps_succ (n : Nat) (r : Run) : runSteps c (n + 1) r s =
    settle c r (fun r' s => runSteps c n { r' with instants := r'.instants + 1 } s) (takeStep c r s) := rfl

theorem atRest_endRun (x : RunResult) : (endRun c x s).AtRest c := .inl (run_endRun x)

theorem atRest_settle {r : Run} {next : Run → State → State} (hnext : ∀ r t, (next r t).AtRest c)
    (x : State × Taken) : (settle c r next x).AtRest c := by
  unfold settle
  split
  · right
    rw [run_setRun]
    exact ⟨rfl, rfl⟩
  · exact atRest_endRun _
  · exact hnext _ _
  · exact hnext _ _

theorem atRest_runSteps (n : Nat) (r : Run) : (runSteps c n r s).AtRest c := by
  induction n generalizing r s with
  | zero => exact atRest_settle (fun _ _ => atRest_endRun _) _
  | succ n ih => exact atRest_settle (fun r _ => ih { r with instants := r.instants + 1 }) _

/-- Settles O44: by induction on the instant steps left, each step taken settling as its kind says. -/
theorem everyRunWaitsOrEnds : Obligations.EveryRunWaitsOrEnds := by
  refine ⟨fun s c r => atRest_runSteps _ _, fun s c r => rfl, fun s c r left => ?_⟩
  cases left with
  | zero =>
    rw [runSteps_zero]
    generalize takeStep c r s = taken
    obtain ⟨t, kind⟩ := taken
    cases kind with
    | waits w timeout => cases timeout <;> rfl
    | done | moves | ends => rfl
  | succ n =>
    rw [runSteps_succ]
    generalize takeStep c r s = taken
    obtain ⟨t, kind⟩ := taken
    cases kind with
    | waits w timeout => cases timeout <;> rfl
    | done | moves | ends => rfl

end RunsGoOn

section Slots

variable {s : State} {c : Channel} {e : TriggerEvent}

/-! ## The slot that fires (R166, R167) -/

theorem slotFires_eq (n : SlotNo) : slotFires c e n s =
    if (s.slot c n).state = .armed ∧ (s.slot c n).event = e ∧ (∀ due ∈ (s.slot c n).holdoffEnd, due < s.now) ∧
        (s.chan c).power.locked = false ∧ (s.chan c).context.run = none then
      (s.slot c n).recipe.filter fun r => !(s.recipe r).isEmpty
    else none := by
  have hholdoff : (s.slot c n).holdoffOver s.now = true ↔ ∀ due ∈ (s.slot c n).holdoffEnd, due < s.now := by
    unfold TriggerSlot.holdoffOver
    cases (s.slot c n).holdoffEnd <;> simp
  have hidle : (!s.running c) = true ↔ (s.chan c).context.run = none := by
    simp [State.running, State.run]
  have hfree : (!s.isLocked c) = true ↔ (s.chan c).power.locked = false := by
    simp [State.isLocked]
  unfold slotFires
  dsimp only
  simp only [hholdoff, hidle, hfree]
  cases (s.slot c n).recipe with
  | none => simp
  | some r =>
    by_cases hr : (!(s.recipe r).isEmpty) = true
    · simp only [hr, and_true, Option.filter_some, if_true]
      exact if_congr (by tauto) rfl rfl
    · simp [hr, Option.filter_some]

theorem armed_of_slotFires {n : SlotNo} {r : RecipeNo} (h : slotFires c e n s = some r) :
    (s.slot c n).state = .armed := by
  rw [slotFires_eq] at h
  split at h
  next hfires => exact hfires.1
  · cases h

/-- The first slot that fires ends the examination. -/
theorem examineSlots_eq (l : List SlotNo) : examineSlots c e l s =
    match l.find? fun n => (slotFires c e n s).isSome with
    | none => s
    | some n =>
      match slotFires c e n s with
      | none => s
      | some r => fire c n r s := by
  induction l with
  | nil => rfl
  | cons n rest ih =>
    unfold examineSlots
    cases hn : slotFires c e n s with
    | none => simp only [List.find?_cons, hn, Option.isSome_none, ih]
    | some r => simp only [List.find?_cons, hn, Option.isSome_some]

/-- An ARMED slot that fires, as one record. -/
theorem fire_eq {n : SlotNo} {r : RecipeNo} (harmed : (s.slot c n).state = .armed) :
    let x := s.chan c
    let v := x.slots.get n
    let count := min 255 (v.fires + 1)
    let spent : Bool := decide (v.limit ≠ 0 ∧ v.limit ≤ count)
    let w : TriggerSlot := { v with
      fires := count, lastFire := some s.uptime, holdoffEnd := some (s.now + v.holdoff * 1000 * 256000)
      state := if spent then .spent else .armed }
    let y : ChannelState := { x with slots := x.slots.set n w }
    fire c n r s = startRun c r (.slot n) (s.putChan c (if spent then y.flag .trigger else y)) := by
  intro x v count spent w y
  have hfired : TriggerSlot.fired (s.after (v.holdoff * 1000)) s.uptime v = w := by
    simp only [TriggerSlot.fired, w, spent, count, decide_eq_true_eq, show v.state = .armed from harmed, State.after, Config.msUnits]
  have hput : modSlot c n (TriggerSlot.fired (s.after ((s.slot c n).holdoff * 1000)) s.uptime) s = s.putChan c y := by
    rw [modSlot_eq, modChan_eq_putChan]
    change s.putChan c { x with slots := x.slots.set n (TriggerSlot.fired (s.after (v.holdoff * 1000)) s.uptime v) } = _
    rw [hfired]
  have hspent : ((s.putChan c y).slot c n).state = .spent ↔ spent = true := by
    have hslot : (s.putChan c y).slot c n = w := by
      rw [State.slot, chan_putChan]
      exact Table.get_set_same _ _ _
    rw [hslot]
    cases hs : spent <;> simp [w, hs]
  unfold fire
  dsimp only
  rw [hput, raise_eq_flag, chan_putChan, putChan_putChan, apply_ite (s.putChan c)]
  exact congrArg _ (if_congr hspent rfl rfl)

/-- Settles O47: the examination finds the first slot that fires. -/
theorem theFirstSlotThatMayFires : Obligations.TheFirstSlotThatMayFires := by
  intro s c e x fires
  have hfires (n : SlotNo) : fires n = slotFires c e n s := (slotFires_eq n).symm
  rw [deliver, examineSlots_eq]
  simp only [hfires]
  cases List.find? (fun n => (slotFires c e n s).isSome) (List.finRange 4) with
  | none => rfl
  | some n =>
    cases hn : slotFires c e n s with
    | none => simp only [hn]
    | some r => simp only [hn, fire_eq (armed_of_slotFires hn)]; rfl

end Slots

end Sys2Proof.Machine

/-! # The server's requests, examined and carried out page by page -/

namespace Sys2Proof.Machine

section Examined

variable {s : State} {c : Channel} {d : DriveNo} {i : Instr} {r : Request}

/-! ## A request taken (R114, R115) -/

/-- The state with a request just taken. -/
def State.taking (s : State) (c : Channel) (r : Request) : State :=
  s.setRequest c (some r) ⟨[], none⟩ (s.chan c).port.last (s.chan c).port.removalLock

theorem complete_setRequest {h : Handed} {last : Option Completed} {lock : Bool} {st : Completion}
    (hport : (s.chan c).port.state ≠ .suspended) : complete c st (s.setRequest c (some r) h last lock) =
      s.setRequest c none h (some ⟨st, r.done, s.uptime⟩) lock := by
  simp [complete, modPort_eq, modChan_eq_putChan, State.setRequest, Port.complete, hport]

theorem complete_taking {st : Completion} (hport : (s.chan c).port.state ≠ .suspended) :
    complete c st (s.taking c r) =
      s.setRequest c none ⟨[], none⟩ (some ⟨st, r.done, s.uptime⟩) (s.chan c).port.removalLock :=
  complete_setRequest hport

@[simp] theorem drive_taking : (s.taking c r).drive d = s.drive d := rfl
@[simp] theorem boundDrive_taking : (s.taking c r).boundDrive c = s.boundDrive c := rfl
@[simp] theorem descriptor_taking : (s.taking c r).descriptor d = s.descriptor d := rfl
@[simp] theorem uptime_taking : (s.taking c r).uptime = s.uptime := rfl

theorem modDrive_taking (f : Drive → Drive) : modDrive d f (s.taking c r) = (modDrive d f s).taking c r := rfl

/-! ## The examination, step by step -/

theorem examine_unbound {act : DriveNo → State → State} (h : s.boundDrive c = none) :
    examine c act s = complete c .noMedium s := by
  rw [examine, h]

theorem examine_inserted {act : DriveNo → State → State} (h : s.boundDrive c = some d)
    (hstate : (s.drive d).state = .inserted) : examine c act s = complete c .mediumChanged
      (modDrive d (fun x => { x with changeOwed := false, state := .present, driveFlag := true }) s) := by
  rw [examine, h]
  dsimp only
  rw [if_pos hstate, raiseDrive_eq, modDrive_modDrive]

theorem examine_asked {act : DriveNo → State → State} (h : s.boundDrive c = some d)
    (hstate : (s.drive d).state ≠ .inserted) (hasked : (s.drive d).ejectRequested = true) :
    examine c act s = complete c .ejectRequested (modDrive d (fun x => { x with ejectRequested := false }) s) := by
  rw [examine, h]
  dsimp only
  rw [if_neg hstate, if_pos hasked]

theorem examine_passed {act : DriveNo → State → State} (h : s.boundDrive c = some d)
    (hstate : (s.drive d).state ≠ .inserted) (hasked : (s.drive d).ejectRequested = false) :
    examine c act s = act d s := by
  rw [examine, h]
  dsimp only
  rw [if_neg hstate, if_neg (by simp [hasked])]

theorem portTakes_iff : s.portTakes c = true ↔ (s.chan c).port.state = .configured ∧ (s.chan c).port.request = none := by
  simp [State.portTakes]

theorem serverRequest_taken {act : DriveNo → State → State} (h : s.portTakes c = true) :
    serverRequest c r act s = examine c act (s.taking c r) := if_pos h

/-- Each of the seven server requests reaches its port as a record of no blocks done. -/
theorem exec_serverRequest (h : serverRequestOf c i = true) :
    ∃ r act, r.done = 0 ∧ ∀ s, exec i s = .next (serverRequest c r act s) := by
  cases i with
  | queryReady | queryCapacity | readBlocks | writeBlocks | removalLock | serverEject | sync =>
    obtain rfl := of_decide_eq_true h
    exact ⟨_, _, rfl, fun _ => rfl⟩
  | _ => cases h

/-- Settles O34: the first three steps of R115 in their order. -/
theorem serverRequestsAreExaminedFirst : Obligations.ServerRequestsAreExaminedFirst := by
  intro s c i hi x ends
  obtain ⟨r, act, hdone, hexec⟩ := exec_serverRequest hi
  refine ⟨fun hleft => ?_, fun hport hrequest => ?_⟩
  · rw [hexec, serverRequest_left]
    rw [← portTakes_iff] at hleft
    exact Bool.eq_false_iff.2 hleft
  · have hlive : x.port.state ≠ .suspended := by rw [hport]; decide
    have hends (t : State) (ht : t.chan c = x) (ht' : t.uptime = s.uptime) (st : Completion) :
        complete c st (t.taking c r) = ends t st := by
      rw [complete_taking (by rw [ht]; exact hlive), hdone, ht', State.setRequest, ht]
    rw [hexec, serverRequest_taken (portTakes_iff.2 ⟨hport, hrequest⟩)]
    refine ⟨fun hbound => ?_, fun d hbound => ⟨fun hstate => ?_, fun hstate hasked => ?_⟩⟩
    · rw [examine_unbound (s := s.taking c r) hbound]
      exact congrArg _ (hends s rfl rfl .noMedium)
    · rw [examine_inserted (s := s.taking c r) hbound hstate, modDrive_taking]
      exact congrArg _ ((hends _ (chan_modDrive ..) (modDrive_uptime ..) .mediumChanged).trans rfl)
    · rw [examine_asked (s := s.taking c r) hbound hstate hasked, modDrive_taking]
      exact congrArg _ ((hends _ (chan_modDrive ..) (modDrive_uptime ..) .ejectRequested).trans rfl)

end Examined

section CarriedOut

variable {s : State} {c : Channel} {d : DriveNo} {i : Instr} {r : Request}

/-! ## A request carried out (R115 step 4) -/

theorem serverRequest_carriesOut {act : DriveNo → State → State} (h : s.carriesOut c d) :
    serverRequest c r act s = act d (s.taking c r) := by
  obtain ⟨hport, hrequest, hbound, hstate, hasked⟩ := h
  rw [serverRequest_taken (portTakes_iff.2 ⟨hport, hrequest⟩), examine_passed (s := s.taking c r) hbound hstate hasked]

theorem live_of_carriesOut (h : s.carriesOut c d) : (s.chan c).port.state ≠ .suspended := by
  rw [h.1]
  decide

/-- A request that ends as it is taken. -/
theorem complete_taken {st : Completion} (h : s.carriesOut c d) (hdone : r.done = 0) :
    complete c st (s.taking c r) =
      s.setRequest c none ⟨[], none⟩ (some ⟨st, 0, s.uptime⟩) (s.chan c).port.removalLock := by
  rw [complete_taking (live_of_carriesOut h), hdone]

theorem modPort_taking_lock (on : Bool) : modPort c (fun p => { p with removalLock := on }) (s.taking c r) =
    s.setRequest c (some r) ⟨[], none⟩ (s.chan c).port.last on := by
  simp [State.taking, State.setRequest, modPort_eq, modChan_eq_putChan]

/-- REMOVAL LOCK (R119). -/
theorem lockRequest_taking (h : s.carriesOut c d) (hdone : r.done = 0) (on : Bool) :
    lockRequest c on d (s.taking c r) =
      if on = false ∧ (s.drive d).state = .ejectWait then
        complete c .good (enterDraining true d .host
          (s.setRequest c (some r) ⟨[], none⟩ (s.chan c).port.last on))
      else s.setRequest c none ⟨[], none⟩ (some ⟨.good, 0, s.uptime⟩) on := by
  have hgood := complete_setRequest (s := s) (c := c) (r := r) (h := ⟨[], none⟩) (last := (s.chan c).port.last)
    (lock := on) (st := .good) (live_of_carriesOut h)
  rw [hdone] at hgood
  unfold lockRequest
  dsimp only
  rw [modPort_taking_lock, apply_ite (complete c .good), hgood, drive_taking]
  exact if_congr (by simp) rfl rfl

/-- EJECT (R120). -/
theorem ejectRequest_taking (h : s.carriesOut c d) (hdone : r.done = 0) :
    ejectRequest c d (s.taking c r) =
      if (s.chan c).port.removalLock then
        s.setRequest c none ⟨[], none⟩ (some ⟨.lockedByServer, 0, s.uptime⟩) true
      else complete c .good (raiseServerEject d (enterDraining true d .server
        (s.setRequest c (some r) ⟨[], none⟩ (s.chan c).port.last false))) := by
  have hlock : ((s.taking c r).chan c).port.removalLock = (s.chan c).port.removalLock := by
    simp [State.taking, State.setRequest]
  unfold ejectRequest
  rw [hlock]
  split
  next hl => rw [complete_taken h hdone, hl]
  next hl => rw [State.taking, Bool.eq_false_iff.2 hl]

/-- QUERY CAPACITY (R116). -/
theorem capacityRequest_taking (h : s.carriesOut c d) (hdone : r.done = 0) :
    capacityRequest c d (s.taking c r) = s.setRequest c none
      ⟨[], some ((s.descriptor d).capacity, (s.descriptor d).blockSize)⟩ (some ⟨.good, 0, s.uptime⟩)
      (s.chan c).port.removalLock := by
  have hhanded (v : Nat × Nat) :
      modPort c (fun p => { p with handed := { p.handed with capacity := some v } }) (s.taking c r) =
        s.setRequest c (some r) ⟨[], some v⟩ (s.chan c).port.last (s.chan c).port.removalLock := by
    simp [State.taking, State.setRequest, modPort_eq, modChan_eq_putChan]
  unfold capacityRequest
  dsimp only
  rw [hhanded, complete_setRequest (live_of_carriesOut h), hdone, descriptor_taking]

/-- SYNC (R121). -/
theorem syncRequest_taking (h : s.carriesOut c d) (hdone : r.done = 0) :
    syncRequest c d (s.taking c r) =
      if (s.drive d).dirtyCount = 0 then
        s.setRequest c none ⟨[], none⟩ (some ⟨.good, 0, s.uptime⟩) (s.chan c).port.removalLock
      else s.taking c { r with wait := some (.spills s.uptime (s.deadline (s.descriptor d).fillTimeout)) } := by
  unfold syncRequest
  rw [drive_taking, complete_taken h hdone]
  refine if_congr Iff.rfl rfl ?_
  simp [setWait, modRequest, modPort_eq, modChan_eq_putChan, State.taking, State.setRequest]
  rfl

/-! ## A read or a write refused, empty or carried on (R117, R118) -/

theorem carryOn_done (hr : s.request c = some r) (hdone : r.count ≤ r.done) (n : Nat) :
    carryOn c d (n + 1) s = complete c .good s := by
  rw [carryOn, hr]
  exact if_pos hdone

theorem request_taking : (s.taking c r).request c = some r := by
  simp [State.request, State.taking, State.setRequest]

/-- A request of no blocks completes GOOD at once (R117, R118). -/
theorem carryOn_taking (h : s.carriesOut c d) (hdone : r.done = 0) :
    carryOn c d (r.count + 1) (s.taking c r) =
      if r.count = 0 then
        s.setRequest c none ⟨[], none⟩ (some ⟨.good, 0, s.uptime⟩) (s.chan c).port.removalLock
      else carryOn c d (r.count + 1) (s.taking c r) := by
  split
  next hzero => rw [carryOn_done request_taking (by omega), complete_taken h hdone]
  · rfl

theorem ite_ite_same_or {α : Type} {p q : Prop} [Decidable p] [Decidable q] (a b : α) :
    (if p then a else if q then a else b) = if p ∨ q then a else b := by
  by_cases hp : p <;> simp [hp]

end CarriedOut

section Pages

variable {s : State} {c : Channel} {d : DriveNo} {i : Nat} {r : Request}

/-! ## The words of the statements -/

theorem takePage_eq_roomOf : takePage s = roomOf s := by
  unfold takePage roomOf evict
  cases hfree : s.freePages with
  | zero =>
    cases hclean : s.cleanList with
    | nil => rfl
    | cons x rest => rfl
  | succ n => rfl

theorem createWant_eq_wantedOf (waiters : List Channel) : createWant d i waiters s = wantedOf d i waiters s := by
  have hwants : (putPage d ⟨i, .filling, []⟩ (roomOf s)).wants = s.wants := by
    rw [← takePage_eq_roomOf]
    exact takePage_wants
  unfold createWant wantedOf
  dsimp only
  rw [takePage_eq_roomOf, hwants]
  rfl

theorem not_poolCheck_iff : (!s.poolCheck) = true ↔ s.reclaimable < s.unmet + 1 := by
  simp [State.poolCheck]

theorem not_hasRoom_iff : (!s.hasRoom d) = true ↔ (s.descriptor d).dirtyLimit ≤ (s.drive d).dirtyCount := by
  simp [State.hasRoom]

theorem joinWant_eq : joinWant c d i s = wantWaitOf c d i s := by
  unfold joinWant wantWaitOf State.wantOf
  simp only [Bool.decide_and]
  rfl

theorem demandWant_eq : demandWant c d i s = demandOf c d i s := by
  unfold demandWant demandOf
  refine if_congr Iff.rfl rfl (if_congr not_poolCheck_iff rfl ?_)
  rw [← createWant_eq_wantedOf]
  rfl

theorem readahead_succ (n : Nat) : readahead d (n + 1) i s =
    if (s.descriptor d).imagePages ≤ i then s
    else if (s.page d i).isSome then readahead d n (i + 1) s
    else if s.wants.length + 5 ≤ 32 ∧ s.unmet + 1 ≤ s.reclaimable then readahead d n (i + 1) (wantedOf d i [] s)
    else s := by
  rw [readahead, createWant_eq_wantedOf]
  refine if_congr Iff.rfl rfl (if_congr Iff.rfl rfl (if_congr ?_ rfl rfl))
  simp [State.poolCheck, Config.wantEntries]

theorem sentBytes_eq (data : List Byte) (n off : Nat) :
    sentBytes off data n = (List.range n).map fun j => data.getD (off + j) (Config.unsentByte (off + j)) := by
  induction n generalizing off with
  | zero => rfl
  | succ n ih =>
    rw [List.range_succ_eq_map, List.map_cons, List.map_map, sentBytes, ih]
    simp only [Nat.add_zero, Function.comp_def, Nat.succ_eq_add_one, Nat.add_assoc, Nat.add_comm 1]

/-- A channel's record with the request in progress moved on by `n` blocks. -/
def ChannelState.movedOn (x : ChannelState) (r : Request) (n : Nat) : ChannelState :=
  { x with port := { x.port with request := some { r with done := r.done + n } } }

theorem placed_eq (k : Cursor) (hr : s.request c = some r) :
    placed c k s = s.putChan c ((s.chan c).movedOn r k.blocks) := by
  have hr' : (s.chan c).port.request = some r := hr
  rw [placed, modRequest, modPort_eq, modChan_eq_putChan, hr']
  rfl

theorem servePage_eq (k : Descriptor) (x : Cursor) (p : CachePage) (hr : s.request c = some r) :
    servePage c k x p s = s.putChan c { s.chan c with port := { (s.chan c).port with
      handed := { (s.chan c).port.handed with blocks := (s.chan c).port.handed.blocks ++
        (p.data.drop (x.offset * k.blockSize)).take (x.blocks * k.blockSize) }
      request := some { r with done := r.done + x.blocks } } } := by
  have hr' : (s.chan c).port.request = some r := hr
  rw [servePage, modPort_eq, modChan_eq_putChan, hr']
  rfl

/-- The bytes of a page with the request's blocks in their place. -/
theorem splice_chunk (k : Descriptor) (x : Cursor) (data : List Byte) :
    splice (x.offset * k.blockSize) (chunk k r x) data =
      data.take (x.offset * k.blockSize) ++
        (List.range (x.blocks * k.blockSize)).map (fun j =>
          r.data.getD (r.done * k.blockSize + j) (Config.unsentByte (r.done * k.blockSize + j))) ++
        data.drop ((x.offset + x.blocks) * k.blockSize) := by
  have hlen : (chunk k r x).length = x.blocks * k.blockSize := length_sentBytes _ _ _
  rw [splice, hlen, chunk, sentBytes_eq, Nat.add_mul]

/-- A page written as the request's blocks lie in it. -/
def CachePage.written (p : CachePage) (k : Descriptor) (r : Request) (x : Cursor) (st : CacheState) : CachePage :=
  { p with
    state := st
    data := p.data.take (x.offset * k.blockSize) ++
      (List.range (x.blocks * k.blockSize)).map (fun j =>
        r.data.getD (r.done * k.blockSize + j) (Config.unsentByte (r.done * k.blockSize + j))) ++
      p.data.drop ((x.offset + x.blocks) * k.blockSize) }

theorem writePage_eq (k : Descriptor) (x : Cursor) (p : CachePage) (st : CacheState) (hr : s.request c = some r) :
    writePage c d k r x p st s =
      (s.putDriveRecord d { s.drive d with map := mapPut (p.written k r x st) (s.drive d).map }).putChan c
        ((s.chan c).movedOn r x.blocks) := by
  rw [writePage, splice_chunk]
  exact placed_eq x hr

theorem chan_roomOf : (roomOf s).chan c = s.chan c := by
  rw [← takePage_eq_roomOf, State.chan, takePage_channels, State.chan]

/-- An absent page written whole: a page is taken for it (R91, R135). -/
theorem takenWrite_eq (k : Descriptor) (x : Cursor) (hr : s.request c = some r) :
    (s |> takePage |> putPage d ⟨x.page, .dirty, padPage (chunk k r x)⟩ |> placed c x |> queueSpill d x.page) =
      let sent := (List.range (x.blocks * k.blockSize)).map fun j =>
        r.data.getD (r.done * k.blockSize + j) (Config.unsentByte (r.done * k.blockSize + j))
      let y := (roomOf s).drive d
      { ((roomOf s).putDriveRecord d { y with
          map := mapPut ⟨x.page, .dirty, sent ++ List.replicate (4096 - sent.length) 0⟩ y.map }).putChan c
            ((s.chan c).movedOn r x.blocks) with
        spillQueue := s.spillQueue ++ [⟨d, x.page⟩] } := by
  have hchan (p : CachePage) : (putPage d p (roomOf s)).chan c = s.chan c := chan_roomOf
  have hrequest (p : CachePage) : (putPage d p (roomOf s)).request c = some r := by
    rw [State.request, hchan]
    exact hr
  have hqueue : (roomOf s).spillQueue = s.spillQueue := by rw [← takePage_eq_roomOf, takePage_spillQueue]
  dsimp only
  rw [takePage_eq_roomOf, placed_eq x (hrequest _), hchan, ← hqueue, padPage, chunk, sentBytes_eq]
  rfl

/-- One page of the request in progress (R126, R135). -/
theorem pageStep_eq_onePageOf (hr : s.request c = some r) : pageStep c d r s = onePageOf c d r s := by
  obtain ⟨kind, lba, count, done, data, wait⟩ := r
  cases kind with
  | readBlocks =>
    unfold pageStep readStep onePageOf cursor
    dsimp only
    cases hp : s.page d ((lba + done) / (s.descriptor d).blocksPerPage) with
    | none => simp only [demandWant_eq]
    | some p =>
      dsimp only
      cases p.state with
      | filling => simp only [joinWant_eq]
      | clean => simp only [servePage_eq _ _ _ hr]; rfl
      | dirty | spilling | spillingDirty => simp only [servePage_eq _ _ _ hr]
  | writeBlocks =>
    unfold pageStep writeStep onePageOf cursor
    dsimp only
    cases hp : s.page d ((lba + done) / (s.descriptor d).blocksPerPage) with
    | none =>
      refine ite_congr (by simp [coversPage]) (fun _ => ?_) fun _ => by rw [demandWant_eq]
      refine ite_congr (propext not_hasRoom_iff |>.trans (decide_eq_true_eq ..).symm) (fun _ => rfl) fun _ => ?_
      refine ite_congr (propext not_poolCheck_iff |>.trans (decide_eq_true_eq ..).symm) (fun _ => rfl) fun _ => ?_
      exact congrArg (·, true) (takenWrite_eq (r := ⟨.writeBlocks, lba, count, done, data, wait⟩) _ _ hr)
    | some p =>
      dsimp only
      cases p.state with
      | filling => simp only [joinWant_eq]
      | clean =>
        refine ite_congr (propext not_hasRoom_iff |>.trans (decide_eq_true_eq ..).symm) (fun _ => rfl) fun _ => ?_
        refine ite_congr (propext not_poolCheck_iff |>.trans (decide_eq_true_eq ..).symm) (fun _ => rfl) fun _ => ?_
        have hr' : (unlist d ((lba + done) / (s.descriptor d).blocksPerPage) s).request c = _ := hr
        rw [writePage_eq _ _ _ _ hr']
        rfl
      | dirty | spilling | spillingDirty => simp only [writePage_eq _ _ _ _ hr]; rfl
  | queryReady | queryCapacity | removalLock | eject | sync => rfl

theorem carryOn_succ (fuel : Nat) : carryOn c d (fuel + 1) s = match s.request c with
    | none => s
    | some r =>
      if r.count ≤ r.done then complete c .good s
      else if (onePageOf c d r s).2 then carryOn c d fuel (onePageOf c d r s).1
      else (onePageOf c d r s).1 := by
  rw [carryOn]
  cases hr : s.request c with
  | none => rfl
  | some r =>
    dsimp only
    rw [pageStep_eq_onePageOf hr]

end Pages

/-- Settles O35: the requests without blocks end as they are taken or wait, and one that reads or writes goes on page by
page. -/
theorem serverRequestsAreCarriedOut : Obligations.ServerRequestsAreCarriedOut := by
  have next {x y : State} (h : x = y) : (.next x : Outcome) = .next y := congrArg Host.Outcome.next h
  refine ⟨?_, ?_, ?_, fun s c d fuel => ⟨rfl, carryOn_succ fuel⟩,
    fun s d n i => ⟨takePage_eq_roomOf, rfl, readahead_succ n⟩⟩
  · intro s c d h k p ends takes
    have hlive := live_of_carriesOut h
    refine ⟨?_, ?_, ?_, ?_, ?_, ?_⟩
    · exact next ((serverRequest_carriesOut h).trans (complete_taken h rfl))
    · refine next ((serverRequest_carriesOut h).trans ?_)
      exact capacityRequest_taking h rfl
    · exact next ((serverRequest_carriesOut h).trans ((lockRequest_taking h rfl true).trans rfl))
    · refine next ((serverRequest_carriesOut h).trans ((lockRequest_taking h rfl false).trans ?_))
      exact if_congr (by simp) rfl rfl
    · refine next ((serverRequest_carriesOut h).trans ((ejectRequest_taking h rfl).trans ?_))
      rfl
    · exact next ((serverRequest_carriesOut h).trans (syncRequest_taking h rfl))
  · intro s c d lba count h p
    refine next ((serverRequest_carriesOut h).trans ?_)
    have hend (st : Completion) := complete_taken (st := st) (r := ⟨.readBlocks, lba, count, 0, [], none⟩) h rfl
    rw [readRequest, hend, ite_ite_same_or, descriptor_taking]
    exact if_congr Iff.rfl rfl (carryOn_taking h rfl)
  · intro s c d lba count data h p
    refine next ((serverRequest_carriesOut h).trans ?_)
    have hend (st : Completion) := complete_taken (st := st) (r := ⟨.writeBlocks, lba, count, 0, data, none⟩) h rfl
    rw [writeRequest, hend, hend, descriptor_taking]
    exact if_congr Iff.rfl rfl (if_congr Iff.rfl rfl (carryOn_taking h rfl))

end Sys2Proof.Machine

/-! # A read whose pages are all cached -/

namespace Sys2Proof.Machine

section CachedReads

variable {s u : State} {c : Channel} {d : DriveNo} {lba count done : Nat}

/-! ## The blocks of a page -/

/-- The bytes of a block in its page; none where the page is absent. -/
def State.blockOf (s : State) (d : DriveNo) (n : Nat) : List Byte :=
  match s.page d (n / (s.descriptor d).blocksPerPage) with
  | none => []
  | some p =>
    (p.data.drop (n % (s.descriptor d).blocksPerPage * (s.descriptor d).blockSize)).take (s.descriptor d).blockSize

/-- The bytes of `n` blocks in a row are the blocks' bytes in order. -/
theorem take_eq_flatMap_range (size n : Nat) (l : List Byte) :
    l.take (n * size) = (List.range n).flatMap fun j => (l.drop (j * size)).take size := by
  induction n with
  | zero => simp
  | succ n ih =>
    rw [Nat.succ_mul, List.take_add, ih, List.range_succ, List.flatMap_append, List.flatMap_singleton]

/-- Blocks in a row within one page share it, at places in a row. -/
theorem div_mod_add {b n j : Nat} (h : n % b + j < b) : (n + j) / b = n / b ∧ (n + j) % b = n % b + j := by
  have hb : 0 < b := by omega
  have hsplit : n + j = n % b + j + b * (n / b) := by
    have := Nat.mod_add_div n b
    omega
  constructor
  · rw [hsplit, Nat.add_mul_div_left _ _ hb, Nat.div_eq_of_lt h, Nat.zero_add]
  · rw [hsplit, Nat.add_mul_mod_self_left, Nat.mod_eq_of_lt h]

/-- The blocks that a request's cursor takes from a page are the next blocks in order. -/
theorem served_blocks {p : CachePage} {n m : Nat} (hp : s.page d (n / (s.descriptor d).blocksPerPage) = some p)
    (hm : n % (s.descriptor d).blocksPerPage + m ≤ (s.descriptor d).blocksPerPage) :
    (p.data.drop (n % (s.descriptor d).blocksPerPage * (s.descriptor d).blockSize)).take (m * (s.descriptor d).blockSize) =
      (List.range m).flatMap fun j => s.blockOf d (n + j) := by
  rw [take_eq_flatMap_range]
  refine List.flatMap_congr fun j hj => ?_
  obtain ⟨hdiv, hmod⟩ := div_mod_add (b := (s.descriptor d).blocksPerPage) (n := n) (j := j)
    (by have := List.mem_range.1 hj; omega)
  rw [State.blockOf, hdiv, hp, hmod, List.drop_drop, Nat.add_mul]

/-! ## The read page by page -/

/-- A read of `s`'s cached blocks that has handed over the first `done` of them. -/
structure ReadSoFar (s : State) (c : Channel) (d : DriveNo) (lba count done : Nat) (u : State) : Prop where
  request : u.request c = some ⟨.readBlocks, lba, count, done, [], none⟩
  live : (u.chan c).port.state ≠ .suspended
  handed : (u.chan c).port.handed.blocks = (List.range done).flatMap fun j => s.blockOf d (lba + j)
  drives : u.drives = s.drives
  now : u.now = s.now
  epoch : u.epoch = s.epoch

/-- Every block from `lba` on has its page cached and filled. -/
def State.Cached (s : State) (d : DriveNo) (lba count : Nat) : Prop :=
  ∀ n, lba ≤ n → n < lba + count → ∃ p, s.page d (n / (s.descriptor d).blocksPerPage) = some p ∧ p.state ≠ .filling

/-- A page that is there and filled is served. -/
theorem readStep_cached {k : Descriptor} {x : Cursor} {p : CachePage} (hp : u.page d x.page = some p)
    (hfilled : p.state ≠ .filling) : ∃ v, readStep c d k x u = (v, true) ∧
      v.chan c = (servePage c k x p u).chan c ∧ v.drives = u.drives ∧ v.now = u.now ∧ v.epoch = u.epoch := by
  unfold readStep
  rw [hp]
  dsimp only
  split
  next h => exact absurd h hfilled
  · exact ⟨_, rfl, rfl, rfl, rfl, rfl⟩
  · exact ⟨_, rfl, rfl, rfl, rfl, rfl⟩

theorem ReadSoFar.step (hu : ReadSoFar s c d lba count done u) (hb : 1 ≤ (s.descriptor d).blocksPerPage)
    (hcached : s.Cached d lba count) (hdone : done < count) :
    ∃ v m, 1 ≤ m ∧ done + m ≤ count ∧ ReadSoFar s c d lba count (done + m) v ∧
      pageStep c d ⟨.readBlocks, lba, count, done, [], none⟩ u = (v, true) := by
  have hpages (i : Nat) : u.page d i = s.page d i := by
    rw [State.page, State.drive, hu.drives, State.page, State.drive]
  have hdescriptor : u.descriptor d = s.descriptor d := by
    rw [State.descriptor, State.drive, hu.drives, State.descriptor, State.drive]
  obtain ⟨p, hp, hfilled⟩ := hcached (lba + done) (by omega) (by omega)
  have hmod : (lba + done) % (s.descriptor d).blocksPerPage < (s.descriptor d).blocksPerPage := Nat.mod_lt _ hb
  set x := cursor (s.descriptor d) ⟨.readBlocks, lba, count, done, [], none⟩ with hx
  have hpage : x.page = (lba + done) / (s.descriptor d).blocksPerPage := rfl
  have hoffset : x.offset = (lba + done) % (s.descriptor d).blocksPerPage := rfl
  have hblocks : x.blocks = min ((s.descriptor d).blocksPerPage - x.offset) (count - done) := rfl
  obtain ⟨v, hv, hchan, hdrives, hnow, hepoch⟩ := readStep_cached (c := c) (k := s.descriptor d) (x := x) (u := u)
    (by rw [hpages, hpage]; exact hp) hfilled
  rw [servePage_eq _ _ _ hu.request, chan_putChan] at hchan
  refine ⟨v, x.blocks, by omega, by omega, ⟨?_, ?_, ?_, ?_, ?_, ?_⟩, ?_⟩
  · rw [State.request, hchan]
  · rw [hchan]
    exact hu.live
  · rw [hchan]
    dsimp only
    rw [hu.handed, hoffset, served_blocks hp (by omega), List.range_add, List.flatMap_append, List.flatMap_map]
    simp only [Nat.add_assoc]
  · rw [hdrives, hu.drives]
  · rw [hnow, hu.now]
  · rw [hepoch, hu.epoch]
  · rw [pageStep]
    dsimp only
    rw [hdescriptor]
    exact hv

theorem complete_of_live {r : Request} {st : Completion} (hr : u.request c = some r)
    (hlive : (u.chan c).port.state ≠ .suspended) : complete c st u =
      u.putChan c { u.chan c with port := { (u.chan c).port with
        request := none, last := some ⟨st, r.done, u.uptime⟩ } } := by
  have hr' : (u.chan c).port.request = some r := hr
  have hcompleted : (u.chan c).port.complete u.uptime st =
      { (u.chan c).port with request := none, last := some ⟨st, r.done, u.uptime⟩ } := by
    rw [Port.complete, hr']
    exact if_neg hlive
  rw [complete, modPort_eq, modChan_eq_putChan, hcompleted]

/-- Carried on, the read hands over every block and completes GOOD. -/
theorem ReadSoFar.carryOn (hu : ReadSoFar s c d lba count done u) (hb : 1 ≤ (s.descriptor d).blocksPerPage)
    (hcached : s.Cached d lba count) (hdone : done ≤ count) {fuel : Nat} (hfuel : count < done + fuel) :
    ((carryOn c d fuel u).chan c).port.request = none ∧
      ((carryOn c d fuel u).chan c).port.last = some ⟨.good, count, s.uptime⟩ ∧
      ((carryOn c d fuel u).chan c).port.handed.blocks = ((List.range count).flatMap fun j => s.blockOf d (lba + j)) ∧
      (carryOn c d fuel u).drives = s.drives := by
  induction fuel generalizing u done with
  | zero => omega
  | succ fuel ih =>
    rcases Nat.eq_or_lt_of_le hdone with rfl | hlt
    · have huptime : u.uptime = s.uptime := by rw [State.uptime, hu.now, hu.epoch, State.uptime]
      rw [carryOn_done hu.request le_rfl, complete_of_live hu.request hu.live, chan_putChan, huptime]
      exact ⟨rfl, rfl, hu.handed, hu.drives⟩
    · obtain ⟨v, m, hm, hle, hv, hstep⟩ := hu.step hb hcached hlt
      have hmore : Machine.carryOn c d (fuel + 1) u = Machine.carryOn c d fuel v := by
        rw [Machine.carryOn, hu.request]
        dsimp only
        rw [if_neg (by omega), hstep]
        rfl
      rw [hmore]
      exact ih hv hle (by omega)

/-- Settles O36: the pages of a read that finds them all cached are served one after another. -/
theorem aReadOfCachedPagesHandsTheBlocks : Obligations.AReadOfCachedPagesHandsTheBlocks := by
  intro s c d lba count h k b block hsize hlo hhi hrange hpages
  have hb : 1 ≤ (s.descriptor d).blocksPerPage := by
    rw [blocksPerPage_eq hsize]
    split <;> decide
  have hcached : s.Cached d lba count := fun n hn hlt =>
    (hpages n hn hlt).imp fun p hp => ⟨hp.1, hp.2.1⟩
  have hstart : ReadSoFar s c d lba count 0 (s.taking c ⟨.readBlocks, lba, count, 0, [], none⟩) := by
    refine ⟨request_taking, ?_, ?_, rfl, rfl, rfl⟩ <;> simp [State.taking, State.setRequest]
    exact live_of_carriesOut h
  have hread : exec (.readBlocks c lba count) s =
      .next (carryOn c d (count + 1) (s.taking c ⟨.readBlocks, lba, count, 0, [], none⟩)) := by
    refine congrArg Host.Outcome.next ((serverRequest_carriesOut h).trans ?_)
    rw [readRequest, if_neg (by omega), descriptor_taking, if_neg (by change ¬ k.capacity < _; omega)]
  exact ⟨_, hread, hstart.carryOn hb hcached (Nat.zero_le _) (by omega)⟩

end CachedReads

end Sys2Proof.Machine

/-! # Entry to DRAINING -/

namespace Sys2Proof.Machine

section Draining

variable {s : State} {c : Channel} {d : DriveNo}

/-! ## Posted wants dropped, as one record (R107) -/

theorem mapErase_eq_filter (i : Nat) {m : List CachePage} (hm : mapWf m = true) :
    mapErase i m = m.filter fun p => !decide (i = p.index) := by
  induction m with
  | nil => rfl
  | cons q rest ih =>
    obtain ⟨hlt, hrest⟩ := mapWf_cons.1 hm
    unfold mapErase
    by_cases hq : q.index = i
    · have hothers : rest.filter (fun p => !decide (i = p.index)) = rest := by
        refine List.filter_eq_self.2 fun p hp => ?_
        have := hlt p hp
        simp only [Bool.not_eq_true', decide_eq_false_iff_not]
        omega
      simp [hq, hothers]
    · simp [hq, Ne.symm hq, ih hrest]

/-- Only the pages of one drive and the wants that meet a test are kept. -/
def State.keeping (s : State) (d : DriveNo) (page : CachePage → Bool) (want : Want → Bool) : State :=
  { s.putDriveRecord d { s.drive d with map := (s.drive d).map.filter page } with wants := s.wants.filter want }

theorem drive_keeping (page : CachePage → Bool) (want : Want → Bool) :
    (s.keeping d page want).drive d = { s.drive d with map := (s.drive d).map.filter page } :=
  drive_putDriveRecord s d _

theorem keeping_keeping (page page' : CachePage → Bool) (want want' : Want → Bool) :
    (s.keeping d page want).keeping d page' want' =
      s.keeping d (fun p => page' p && page p) fun v => want' v && want v := by
  have hdrives : (s.drives.set d { s.drive d with map := (s.drive d).map.filter page }).set d
      { s.drive d with map := ((s.drive d).map.filter page).filter page' } =
        s.drives.set d { s.drive d with map := (s.drive d).map.filter fun p => page' p && page p } := by
    rw [Table.set_set, List.filter_filter]
  rw [State.keeping, drive_keeping]
  exact congrArg₂ (fun drives wants => { s with drives := drives, wants := wants }) hdrives List.filter_filter

theorem keeping_all : s.keeping d (fun _ => true) (fun _ => true) = s := by
  unfold State.keeping
  rw [List.filter_eq_self.2 fun _ _ => rfl, List.filter_eq_self.2 fun _ _ => rfl]
  exact congrArg (fun drives => { s with drives := drives }) (Table.set_get s.drives d)

theorem keeping_congr {page page' : CachePage → Bool} {want want' : Want → Bool}
    (hpage : ∀ p, page p = page' p) (hwant : ∀ v ∈ s.wants, want v = want' v) :
    s.keeping d page want = s.keeping d page' want' := by
  unfold State.keeping
  rw [funext hpage, List.filter_congr hwant]

/-- One want dropped with its page. -/
theorem dropWant_eq (w : Want) (hm : mapWf (s.drive d).map = true) :
    (s |> dropPage d w.page |> removeWant w.number) =
      s.keeping d (fun p => !decide (w.page = p.index)) fun v => !decide (v.number = w.number) := by
  rw [dropPage, modDrive_eq_putDriveRecord, mapErase_eq_filter _ hm]
  unfold removeWant State.keeping
  simp only [decide_not]
  rfl

/-- A list of wants of one drive dropped: their pages leave the map and their numbers the table. -/
theorem dropWants_record (l : List Want) (hm : mapWf (s.drive d).map = true) :
    l.foldl (fun s w => s |> dropPage d w.page |> removeWant w.number) s =
      s.keeping d (fun p => !l.any fun w => decide (w.page = p.index))
        fun v => !l.any fun w => decide (v.number = w.number) := by
  induction l generalizing s with
  | nil => exact keeping_all.symm
  | cons w l ih =>
    have hwf : mapWf ((s |> dropPage d w.page |> removeWant w.number).drive d).map = true := by
      have hmap := congrArg Drive.map (drive_modDrive s d fun x => { x with map := mapErase w.page x.map })
      exact hmap.symm ▸ mapWf_mapErase _ _ hm
    rw [List.foldl_cons, ih hwf, dropWant_eq w hm, keeping_keeping]
    exact keeping_congr (fun p => by simp [Bool.and_comm]) fun v _ => by simp [Bool.and_comm]

/-- The want is POSTED and of the drive. -/
def Want.lost (d : DriveNo) (w : Want) : Bool := decide (w.drive = d) && !w.taken

theorem dropPosted_eq (hm : mapWf (s.drive d).map = true) (hnodup : (s.wants.map (·.number)).Nodup) :
    dropPosted d s = s.keeping d (fun p => !s.wants.any fun w => w.lost d && decide (w.page = p.index))
      fun v => !v.lost d := by
  have hnumbers (v : Want) (hv : v ∈ s.wants) :
      ((s.wants.filter (Want.lost d)).any fun w => decide (v.number = w.number)) = v.lost d := by
    rw [Bool.eq_iff_iff, List.any_eq_true]
    constructor
    · rintro ⟨w, hw, heq⟩
      obtain ⟨hmem, hlost⟩ := List.mem_filter.1 hw
      rwa [List.inj_on_of_nodup_map hnodup hv hmem (of_decide_eq_true heq)]
    · exact fun hlost => ⟨v, List.mem_filter.2 ⟨hv, hlost⟩, decide_eq_true rfl⟩
  have hpages (p : CachePage) : ((s.wants.filter (Want.lost d)).any fun w => decide (w.page = p.index)) =
      s.wants.any fun w => w.lost d && decide (w.page = p.index) := List.any_filter
  exact (dropWants_record _ hm).trans
    (keeping_congr (fun p => congrArg Bool.not (hpages p)) fun v hv => congrArg Bool.not (hnumbers v hv))

/-! ## The request ended before or after the binding -/

theorem map_set_table {n : Nat} {α β : Type} (f : α → β) (t : Table n α) (i : Fin n) (x : α) :
    (t.set i x).map f = (t.map f).set i (f x) := by
  unfold Table.map Table.set
  congr 1
  exact List.map_set

theorem withdraw_modDrive {f : Drive → Drive} (hf : ∀ x p, f { x with dirtyWaiters := x.dirtyWaiters.filter p } =
    { f x with dirtyWaiters := (f x).dirtyWaiters.filter p }) :
    withdraw c (modDrive d f s) = modDrive d f (withdraw c s) := by
  let g (x : Drive) : Drive := { x with dirtyWaiters := x.dirtyWaiters.filter fun w => w.channel ≠ c }
  have hdrives : (s.drives.set d (f (s.drive d))).map g = (s.drives.map g).set d (f ((s.drives.map g).get d)) := by
    rw [map_set_table, Table.get_map, show f (g (s.drives.get d)) = g (f (s.drives.get d)) from hf _ _]
    rfl
  exact congrArg (fun drives => { withdraw c s with drives := drives }) hdrives

theorem endRequest_unbind (st : Completion) : endRequest c st (unbind d c s) = unbind d c (endRequest c st s) := by
  have hport (time : Quad) (p : Port) : Port.endRequest time st { p with removalLock := false } =
      { p.endRequest time st with removalLock := false } := by
    obtain ⟨presence, vbusRaw, vbus, vbusSince, state, lock, wake, request, handed, last⟩ := p
    cases request with
    | none => rfl
    | some r =>
      simp only [Port.endRequest, Port.complete]
      split
      · rfl
      · split <;> rfl
  have hpulled : withdraw c (unbind d c s) = unbind d c (withdraw c s) :=
    congrArg (modPort c fun p => { p with removalLock := false }) (withdraw_modDrive fun _ _ => rfl)
  calc endRequest c st (unbind d c s)
    _ = modPort c (Port.endRequest s.uptime st) (unbind d c (withdraw c s)) := congrArg (modPort c _) hpulled
    _ = unbind d c (endRequest c st s) := by
      unfold endRequest unbind modPort
      dsimp only
      rw [modChan_modChan]
      simp only [hport]
      exact (modChan_modChan (modDrive d _ (withdraw c s)) c (fun x => { x with port := { x.port with removalLock := false } })
        fun x => { x with port := x.port.endRequest s.uptime st }).symm

/-! ## The entry (O32) -/

theorem wants_endRequest_numbers (st : Completion) :
    (endRequest c st s).wants.map (·.number) = s.wants.map (·.number) := by
  simp [endRequest, withdraw, modPort, modChan, Function.comp_def]

theorem map_drive_endRequest (st : Completion) : ((endRequest c st s).drive d).map = (s.drive d).map := by
  have hkept := congrArg Drive.map (Table.get_map
    (fun x : Drive => { x with dirtyWaiters := x.dirtyWaiters.filter fun w => w.channel ≠ c }) s.drives d)
  exact hkept

theorem any_wants_endRequest (st : Completion) (q : Want → Bool) (hq : ∀ w l, q { w with waiters := l } = q w) :
    (endRequest c st s).wants.any q = s.wants.any q := by
  show (s.wants.map _).any q = _
  rw [List.any_map]
  exact congrArg (s.wants.any ·) (funext fun w => hq w _)

/-- Settles O32: the request ends before or after the binding alike, and the posted wants leave in one pass as their
numbers differ. -/
theorem entryToDrainingActsInOrder : Obligations.EntryToDrainingActsInOrder := by
  intro s own d why c hb hm hn a lost x y b z e
  have hfacts : (a.drive d).map = (s.drive d).map ∧ a.wants.map (·.number) = s.wants.map (·.number) ∧
      a.uptime = s.uptime ∧ ∀ i, (a.wants.any fun w => w.lost d && decide (w.page = i)) =
        s.wants.any fun w => w.lost d && decide (w.page = i) := by
    cases own
    case true => exact ⟨rfl, rfl, rfl, fun _ => rfl⟩
    case false =>
      exact ⟨map_drive_endRequest _, wants_endRequest_numbers _, rfl, fun _ => any_wants_endRequest _ _ fun _ _ => rfl⟩
  obtain ⟨hmap, hnumbers, htime, hany⟩ := hfacts
  have hentry : enterDraining own d why s = serveEntries (servePages (testDrain d (raiseDrive d (marker c .mediaOut
      (d.val + 256 * why.code) (dropPosted d (unbind d c a)))))) := by
    unfold enterDraining
    rw [hb]
    cases own
    case true => rfl
    case false => exact congrArg (fun t => serveEntries (servePages (testDrain d (raiseDrive d (marker c .mediaOut
      (d.val + 256 * why.code) (dropPosted d t)))))) (endRequest_unbind .noMedium)
  have hdropped : dropPosted d (unbind d c a) = (unbind d c a).keeping d
      (fun p => !s.wants.any fun w => w.lost d && decide (w.page = p.index)) fun v => !v.lost d := by
    have hmaps := congrArg Drive.map (drive_modDrive a d fun x =>
      { x with state := .draining, bound := none, changeOwed := false, ejectRequested := false })
    have hmaps : ((unbind d c a).drive d).map = (a.drive d).map := hmaps
    rw [dropPosted_eq (hmaps.trans hmap ▸ hm d) (hnumbers ▸ hn)]
    exact keeping_congr (fun p => congrArg Bool.not (hany _)) fun _ _ => rfl
  rw [hentry, hdropped]
  refine congrArg (fun t => serveEntries (servePages (testDrain d t))) ?_
  let u : Drive := { x with state := .draining, bound := none, changeOwed := false, ejectRequested := false }
  let v : ChannelState := { y with port := { y.port with removalLock := false } }
  have hchannels : (a.channels.set c v).set c (((a.channels.set c v).get c).mark a.uptime .mediaOut
      (d.val + 256 * why.code)) = a.channels.set c z := by
    rw [Table.get_set_same, Table.set_set, htime]
  let kept (x : Drive) : Drive :=
    { x with map := x.map.filter fun p => !s.wants.any fun w => w.lost d && decide (w.page = p.index) }
  let flagged (x : Drive) : Drive := { x with driveFlag := true }
  have hdrives : ((a.drives.set d u).set d (kept ((a.drives.set d u).get d))).set d
      (flagged (((a.drives.set d u).set d (kept ((a.drives.set d u).get d))).get d)) =
        a.drives.set d (flagged (kept u)) := by
    rw [Table.get_set_same, Table.get_set_same, Table.set_set, Table.set_set]
  exact congrArg₂ (fun channels drives => { a with
    channels := channels, drives := drives, wants := a.wants.filter fun w => !w.lost d }) hchannels hdrives

end Draining

end Sys2Proof.Machine

/-! # One channel's record, and a request's answer -/

namespace Sys2Proof.Machine

section Records

variable {s : State} {c : Channel} (x : ChannelState)

/-! ## The operations on a record that was just replaced -/

theorem modChan_putChan (f : ChannelState → ChannelState) : modChan c f (s.putChan c x) = s.putChan c (f x) := by
  rw [modChan_eq_putChan, chan_putChan, putChan_putChan]

theorem marker_putChan (k : MarkerKind) (n : Nat) : marker c k n (s.putChan c x) = s.putChan c (x.mark s.uptime k n) := by
  rw [marker_eq_mark, chan_putChan, putChan_putChan, putChan_uptime]

theorem raise_putChan (k : ChannelFlag) : raise c k (s.putChan c x) = s.putChan c (x.flag k) := modChan_putChan x _

theorem endPulse_putChan (l : Line) (held : Nat) :
    endPulse c l held (s.putChan c x) = s.putChan c (x.pulseEnded s.now s.uptime l held) := by
  rw [endPulse_eq_pulseEnded, chan_putChan, putChan_putChan, putChan_now, putChan_uptime]

/-- The arbiter's turn, as one record (R69, R70). -/
theorem arbitrate_eq : arbitrate c s = s.putChan c ((s.chan c).arbitrated s.now) := by
  have hboundary : s.atBoundary c = true ↔ (s.chan c).power.state = .on ∧ (s.chan c).tx.char = none ∧
      (s.chan c).tx.breaking = false ∧ (s.chan c).tx.settling = false := by
    simp [State.atBoundary, State.powered, and_assoc]
  unfold arbitrate ChannelState.arbitrated
  by_cases h : s.atBoundary c = true
  · rw [if_pos h, if_pos (hboundary.1 h)]
    rfl
  · rw [if_neg h, if_neg fun hx => h (hboundary.2 hx), putChan_chan]

theorem arbitrate_putChan : arbitrate c (s.putChan c x) = s.putChan c (x.arbitrated s.now) := by
  rw [arbitrate_eq, chan_putChan, putChan_putChan, putChan_now]

theorem putChan_ite (p : Prop) [Decidable p] (y : ChannelState) :
    s.putChan c (if p then x else y) = if p then s.putChan c x else s.putChan c y := apply_ite _ _ _ _

end Records

section Answers

variable {s : State} {i : Instr} {f : RequestFrame} {h : Handler} {ch : Byte}

/-! ## A request taken, its handler's result put into the words of the statements -/

/-- What a request leaves where its handler gives a state and an answer. -/
def State.reply (s : State) (i : Instr) (r : State × Answer) : State := s.answered i r.1 r.2.status r.2.body

/-- The handler does the same with another link, but for the number of replies formed, which its free bytes may read
(log 9). -/
def SameLinked (h : Handler) (s : State) : Prop :=
  ∀ l : Link, l.formed = s.link.formed → h (s.withLink l) = relinked l (h s)

/-- Such a handler gives its result on the state before the transaction. -/
theorem exec_reply (hlink : SameLinked h s) (hr : s.ready = true)
    (hf : i.request? = some f) (hfit : fitsFrame f.body.length = true)
    (hx : exec i s = .next (takeRequest i h s)) : exec i s = .next (s.reply i (h s)) :=
  hx.trans (congrArg Host.Outcome.next
    (takeRequest_answered (t := (h s).1) (st := (h s).2.status) (body := (h s).2.body) hf hr hfit (hlink _ rfl)))

theorem onChannel_sameLinked {g : Channel → Handler} (hg : ∀ c, SameLinked (g c) s) : SameLinked (onChannel ch g) s := by
  intro l hl
  cases hc : ident? 8 ch with
  | none => rw [onChannel_none hc, onChannel_none hc]; rfl
  | some c => rw [onChannel_some hc, onChannel_some hc, hg c l hl]

theorem onDrive_sameLinked {g : DriveNo → Handler} (hg : ∀ d, SameLinked (g d) s) : SameLinked (onDrive ch g) s := by
  intro l hl
  cases hd : ident? 4 ch with
  | none => rw [onDrive_none hd, onDrive_none hd]; rfl
  | some d => rw [onDrive_some hd, onDrive_some hd, hg d l hl]

theorem onFlag_sameLinked {g : Bool → Handler} (hg : ∀ v, SameLinked (g v) s) : SameLinked (onFlag ch g) s := by
  intro l hl
  cases hv : flag? ch with
  | none => rw [onFlag_none hv, onFlag_none hv]; rfl
  | some v => rw [onFlag_some hv, onFlag_some hv, hg v l hl]

/-- A request that names a channel: BAD_VALUE, or what its rule does to that channel. -/
theorem exec_onChannel {g : Channel → Handler} (hg : ∀ c, SameLinked (g c) s)
    (hr : s.ready = true) (hf : i.request? = some f) (hfit : fitsFrame f.body.length = true)
    (hx : exec i s = .next (takeRequest i (onChannel ch g) s)) :
    exec i s = .next (match ident? 8 ch with
      | none => s.answered i s .badValue []
      | some c => s.reply i (g c s)) := by
  rw [exec_reply (onChannel_sameLinked hg) hr hf hfit hx]
  cases hc : ident? 8 ch with
  | none => rw [onChannel_none hc]; rfl
  | some c => rw [onChannel_some hc]

/-- A request that names a channel and carries a two-valued field. -/
theorem exec_onChannelFlag {g : Channel → Bool → Handler} {b : Byte} (hg : ∀ c v, SameLinked (g c v) s)
    (hr : s.ready = true) (hf : i.request? = some f) (hfit : fitsFrame f.body.length = true)
    (hx : exec i s = .next (takeRequest i (onChannel ch fun c => onFlag b (g c)) s)) :
    exec i s = .next (match ident? 8 ch, flag? b with
      | some c, some v => s.reply i (g c v s)
      | _, _ => s.answered i s .badValue []) := by
  rw [exec_onChannel (fun c => onFlag_sameLinked (hg c)) hr hf hfit hx]
  cases hc : ident? 8 ch with
  | none => rfl
  | some c =>
    cases hv : flag? b with
    | none => dsimp only; rw [onFlag_none hv]; rfl
    | some v => dsimp only; rw [onFlag_some hv]

theorem powerGuard_sameLinked {c : Channel} (hh : SameLinked h s) : SameLinked (powerGuard c h) s :=
  fun l hl => ite_relinked rfl (ite_relinked rfl (hh l hl))

/-- A power request: BAD_VALUE, the refusals of R4 in order, or what its rule does. -/
theorem exec_onPower {g : Channel → Handler} (hg : ∀ c, SameLinked (g c) s)
    (hr : s.ready = true) (hf : i.request? = some f) (hfit : fitsFrame f.body.length = true)
    (hx : exec i s = .next (takeRequest i (onChannel ch fun c => powerGuard c (g c)) s)) :
    exec i s = .next (match ident? 8 ch with
      | none => s.answered i s .badValue []
      | some c =>
        match s.powerRefusal c with
        | some st => s.answered i s st []
        | none => s.reply i (g c s)) := by
  rw [exec_onChannel (fun c => powerGuard_sameLinked (hg c)) hr hf hfit hx]
  cases ident? 8 ch with
  | none => rfl
  | some c =>
    dsimp only
    cases hp : s.powerRefusal c with
    | some st => rw [powerGuard_refused hp]; rfl
    | none => rw [powerGuard_passed hp]

end Answers

end Sys2Proof.Machine

/-! # Power, pulses and the service lock -/

namespace Sys2Proof.Machine

section Power

variable {s : State} {c : Channel} (x : ChannelState)

/-! ## Leaving ON (R3, R72) -/

/-- The record with its queue flushed (R71, R72). -/
def ChannelState.flushed (x : ChannelState) (time : Quad) : ChannelState :=
  if x.tx.queue = [] then x
  else ({ x with tx := { x.tx with queue := [] } } : ChannelState).mark time .txFlush x.tx.queue.length

theorem flushQueue_putChan : flushQueue c (s.putChan c x) = s.putChan c (x.flushed s.uptime) := by
  unfold flushQueue ChannelState.flushed
  dsimp only
  rw [chan_putChan, modTx, modChan_putChan, marker_putChan, putChan_ite]
  exact if_congr List.length_eq_zero_iff rfl rfl

theorem brk_flushed (time : Quad) : (x.flushed time).tx.brk = x.tx.brk := by
  unfold ChannelState.flushed
  split <;> rfl

/-- The last step of R72: the pass abandoned, the countdown frozen, no hold. -/
def ChannelState.frozen (x : ChannelState) (now : Nat) : ChannelState :=
  { x with tx := { x.tx with slot := x.tx.slot.map fun k => k.abandon.freeze now, hold := none } }

/-- The record with its break ended (R68). -/
def ChannelState.broken (x : ChannelState) (time : Quad) (held : Nat) : ChannelState :=
  ({ x with tx := { x.tx with brk := none } } : ChannelState).mark time .breakSent held

theorem endBreak_putChan (held : Nat) : endBreak c held (s.putChan c x) = s.putChan c (x.broken s.uptime held) := by
  unfold endBreak
  rw [modTx, modChan_putChan, marker_putChan]
  rfl

theorem closeTxGate_putChan (tell : State → State) : closeTxGate tell c (s.putChan c x) =
    let y := ({ x with tx := { x.tx with char := none } } : ChannelState).flushed s.uptime
    match x.tx.brk with
    | none => s.putChan c (y.frozen s.now)
    | some b =>
      let z := y.broken s.uptime (b.heldMs s.now)
      if b.origin = .run then
        let told := tell (s.putChan c z)
        told.putChan c ((told.chan c).frozen told.now)
      else s.putChan c (z.frozen s.now) := by
  unfold closeTxGate gateBreak
  rw [modTx, modChan_putChan, flushQueue_putChan, chan_putChan, brk_flushed]
  obtain ⟨power, finder, watch, framing, store, ⟨char, queue, slot, brk, rest⟩, others⟩ := x
  cases brk with
  | none => exact modChan_putChan (c := c) (ChannelState.flushed _ _) fun x => x.frozen s.now
  | some b =>
    dsimp only
    rw [putChan_now, endBreak_putChan]
    split
    · rfl
    · exact modChan_putChan (c := c) (ChannelState.broken _ _ _) fun x => x.frozen s.now

/-- What leaving ON does before the transmitter's gate closes. -/
def ChannelState.poweredDown (x : ChannelState) (time : Quad) (cause : OffCause) : ChannelState :=
  let y := (x.flag .power).mark time .powerOff cause.code
  { y with power := { y.power with lastCause := cause, lastCauseAt := time }, watch := y.watch.closed }

/-- The record while a RUN break's end is told: R72's steps up to the break done, the slot not frozen yet. -/
def ChannelState.breakTold (x : ChannelState) (now : Nat) (time : Quad) (cause : OffCause) : ChannelState :=
  let z := x.leftOn now time cause
  { z with tx := { z.tx with slot := x.tx.slot, hold := x.tx.hold } }

theorem leaveOn_eq_closeTxGate (tell : State → State) (cause : OffCause) :
    leaveOn tell c cause (s.putChan c x) = closeTxGate tell c (s.putChan c (x.poweredDown s.uptime cause)) := by
  unfold leaveOn closeWatchGate
  unfold modPower modWatch
  dsimp only
  rw [raise_putChan, marker_putChan, modChan_putChan, modChan_putChan]
  rfl

/-- Leaving ON is one record, but that the run may be told of its break's end before the slot freezes. -/
theorem leaveOn_putChan (tell : State → State) (cause : OffCause) :
    leaveOn tell c cause (s.putChan c x) =
      if x.tx.brk.map (·.origin) = some .run then
        let told := tell (s.putChan c (x.breakTold s.now s.uptime cause))
        told.putChan c ((told.chan c).frozen told.now)
      else s.putChan c (x.leftOn s.now s.uptime cause) := by
  rw [leaveOn_eq_closeTxGate, closeTxGate_putChan]
  obtain ⟨power, finder, watch, framing, store, ⟨char, queue, slot, brk, hold, rest⟩, others⟩ := x
  cases brk with
  | none => cases queue <;> rfl
  | some b =>
    obtain ⟨origin, duration, since⟩ := b
    cases origin <;> cases queue <;> rfl

theorem state_leftOn (now : Nat) (time : Quad) (cause : OffCause) :
    (x.leftOn now time cause).power.state = x.power.state := by
  obtain ⟨power, finder, watch, framing, store, ⟨char, queue, slot, brk, hold, rest⟩, others⟩ := x
  cases brk <;> cases queue <;> rfl

theorem leaveOn_id (cause : OffCause) :
    leaveOn id c cause (s.putChan c x) = s.putChan c (x.leftOn s.now s.uptime cause) := by
  rw [leaveOn_putChan]
  split
  · dsimp only [id]
    rw [chan_putChan, putChan_putChan, putChan_now]
    obtain ⟨power, finder, watch, framing, store, ⟨char, queue, slot, brk, hold, rest⟩, others⟩ := x
    cases brk <;> cases queue <;> rfl
  · rfl

/-! ## Cut and Supply (R4, R5) -/

theorem releasePen_eq : releasePen c s = s.putChan c (({ s.chan c with power := { (s.chan c).power with
      state := .cutHoldoff, holdoffEnd := s.now + (s.chan c).power.minimumOff * 1000 * 256000
      pgQualified := false, pgSince := none } } : ChannelState).mark s.uptime .powerCut 0) := by
  unfold releasePen
  rw [modPower, modChan_eq_putChan, marker_putChan]
  rfl

theorem cutPower_eq : cutPower c s = cutOf c s := by
  unfold cutPower cutOf
  dsimp only
  cases hstate : (s.chan c).power.state with
  | off => dsimp only; rw [releasePen_eq, raise_putChan]
  | on => dsimp only; rw [releasePen_eq, leaveOn_id]
  | cutHoldoff => dsimp only; rw [← hstate]; rfl
  | cut => rfl

theorem assertPen_eq : assertPen c s = s.putChan c ((s.chan c).supplied s.now s.uptime) := by
  have htiming (raw : Bool) : timingFrom s.now raw false = if raw then some s.now else none := by cases raw <;> rfl
  unfold assertPen
  rw [modPower, modChan_eq_putChan, marker_putChan, raise_putChan, htiming]
  rfl

theorem supplyPower_eq : supplyPower c s = supplyOf c s := by
  unfold supplyPower supplyOf
  rw [assertPen_eq]
  rfl

end Power

/-- Settles O3: the cut written as one record, by power state, behind the checks of R4. -/
theorem cutActsByPowerState : Obligations.CutActsByPowerState := by
  refine ⟨fun s tag ch hr => ?_, fun s c r => congrArg (·, Taken.done .met) cutPower_eq⟩
  have hcode (c : Channel) : (cutOf c s).putPower c = [if (s.chan c).power.state = .cut then 1 else 0] := by
    unfold cutOf State.putPower
    cases hstate : (s.chan c).power.state with
    | off => simp only [hstate, chan_putChan]; rfl
    | on => simp only [hstate, chan_putChan, state_leftOn]; rfl
    | cutHoldoff => simp only [hstate, chan_putChan]; rfl
    | cut => simp only [hstate]; rfl
  refine (exec_onPower (g := fun c s => done (cutPower c s) ((cutPower c s).putPower c))
    (fun c l _ => by dsimp only; rw [cutPower_withLink]; rfl) hr rfl rfl rfl).trans ?_
  simp only [done, cutPower_eq, hcode]
  rfl

/-- What a Supply answers once its checks have passed (R5). -/
def supplyAnswer (c : Channel) (s : State) : State × Answer :=
  let t := supplyPower c s
  let body := t.putPower c ++ put2 (t.holdoffLeft c)
  if (s.chan c).power.state = .cutHoldoff then (t, ⟨.deferred, body⟩) else done t body

/-- Settles O4: the supply written as one record, by power state, behind the checks of R4. -/
theorem supplyActsByPowerState : Obligations.SupplyActsByPowerState := by
  refine ⟨fun s tag ch hr => ?_, fun s c r => congrArg (·, Taken.done .met) supplyPower_eq⟩
  refine (exec_onPower (g := supplyAnswer) (fun c l _ => by
    unfold supplyAnswer
    rw [supplyPower_withLink]
    exact ite_relinked rfl rfl) hr rfl rfl rfl).trans ?_
  simp only [supplyAnswer, supplyPower_eq]
  refine congrArg Host.Outcome.next ?_
  cases ident? 8 ch with
  | none => rfl
  | some c =>
    dsimp only
    cases s.powerRefusal c with
    | some st => rfl
    | none =>
      dsimp only
      unfold supplyOf State.putPower State.holdoffLeft
      cases hstate : (s.chan c).power.state with
      | off => simp only [hstate, reduceCtorEq, if_false]; rfl
      | on => simp only [hstate, reduceCtorEq, if_false]; rfl
      | cutHoldoff =>
        simp only [hstate, chan_putChan, if_true, State.reply, State.remaining, putChan_now]
        rfl
      | cut =>
        have hsupplied : ((s.chan c).supplied s.now s.uptime).power.state = .off := rfl
        simp only [hstate, chan_putChan, hsupplied, reduceCtorEq, if_false]
        rfl

/-- Settles O5: the record that each timer leaves, with the clock carried to its moment. -/
theorem powerTimersEndAtTheirMoments : Obligations.PowerTimersEndAtTheirMoments := by
  refine ⟨fun s c => ?_, fun s c l => ?_, fun s c => ⟨rfl, rfl⟩⟩
  · intro x t
    refine congrArg Host.Outcome.next ?_
    dsimp only [execHoldoffExpiry]
    rw [ite_not]
    refine if_congr Iff.rfl (if_congr Iff.rfl assertPen_eq ?_) rfl
    unfold modPower
    rw [modChan_eq_putChan, raise_putChan]
    rfl
  · refine congrArg Host.Outcome.next ?_
    cases (s.chan c).power.pulse l with
    | none => rfl
    | some p =>
      dsimp only
      rw [endPulse_eq_pulseEnded]
      rfl

/-- Settles O7: each level is timed by the same rule, power-good only while PEN is asserted. -/
theorem levelChangesAreTimed : Obligations.LevelChangesAreTimed := by
  intro s c level x timing
  have hretime (qualified : Bool) (since : Option Nat) : retime s.now level qualified since = timing qualified since := by
    cases since <;> rfl
  have hpen (v : PowerState) (a : Option Nat) : (if v.pen then a else none) = if v = .off ∨ v = .on then a else none := by
    cases v <;> rfl
  refine ⟨?_, ?_, ?_, ?_⟩
  · refine congrArg (fun since => Host.Outcome.next (s.putChan c { x with power := { x.power with
      pgRaw := level, pgSince := since } })) ?_
    rw [hretime, hpen]
  · exact congrArg (fun since => Host.Outcome.next (s.putChan c { x with power := { x.power with
      lockRaw := level, lockSince := since } })) (hretime _ _)
  · exact congrArg (fun since => Host.Outcome.next (s.putChan c { x with watch := { x.watch with
      raw := level, since := since } })) (hretime _ _)
  · exact congrArg (fun since => Host.Outcome.next (s.putChan c { x with port := { x.port with
      vbusRaw := level, vbusSince := since } })) (hretime _ _)

section Lock

variable {s : State} {c : Channel}

/-- A pulse on a line, if there is one, cut short (R8). -/
def ChannelState.shortened (x : ChannelState) (now : Nat) (time : Quad) (l : Line) : ChannelState :=
  match x.power.pulse l with
  | none => x
  | some p => x.pulseEnded now time l (min p.duration ((now - p.since) / 256000))

theorem cutShort_putChan (x : ChannelState) (l : Line) :
    cutShort c l (fun _ => true) (s.putChan c x) = s.putChan c (x.shortened s.now s.uptime l) := by
  unfold cutShort ChannelState.shortened
  rw [chan_putChan]
  cases x.power.pulse l with
  | none => rfl
  | some p => exact endPulse_putChan x l _

/-- LOCKED qualified, as one record and then the end of the run (R12). -/
theorem lockOn_putChan (x : ChannelState) : lockOn c (s.putChan c x) =
    let y : ChannelState := { x with power := { x.power with locked := true, lockSince := none } }
    let z := (y.shortened s.now s.uptime .button).shortened s.now s.uptime .reset
    let t := s.putChan c ((({ z with power := { z.power with pendingSupply := false } }
      : ChannelState).mark s.uptime .lockOn 0).flag .lock)
    if t.running c then endRun c .locked t else t := by
  unfold lockOn modPower
  simp only [modChan_putChan, cutShort_putChan, marker_putChan, raise_putChan]

/-- The record after LOCKED has qualified, before a run is looked for (R12). -/
def ChannelState.lockedOut (x : ChannelState) (now : Nat) (time : Quad) : ChannelState :=
  let held (p : Pulse) : Nat := min p.duration ((now - p.since) / 256000)
  let y : ChannelState := { x with power := { x.power with locked := true, lockSince := none } }
  let y := match x.power.button with
    | none => y
    | some p => y.pulseEnded now time .button (held p)
  let y := match x.power.reset with
    | none => y
    | some p => y.pulseEnded now time .reset (held p)
  let y := { y with power := { y.power with pendingSupply := false } }
  (y.mark time .lockOn 0).flag .lock

theorem context_lockedOut (x : ChannelState) (now : Nat) (time : Quad) : (x.lockedOut now time).context = x.context := by
  obtain ⟨⟨state, holdoffEnd, pendingSupply, pgRaw, pgQualified, pgSince, button, reset, rest⟩, others⟩ := x
  cases button <;> cases reset <;> rfl

theorem lockOn_record : lockOn c s =
    let t := s.putChan c ((s.chan c).lockedOut s.now s.uptime)
    if (s.chan c).context.run.isSome then endRun c .locked t else t := by
  have hlock := lockOn_putChan (s := s) (c := c) (s.chan c)
  rw [putChan_chan] at hlock
  have hrecord (x : ChannelState) :
      (let y : ChannelState := { x with power := { x.power with locked := true, lockSince := none } }
      let z := (y.shortened s.now s.uptime .button).shortened s.now s.uptime .reset
      (({ z with power := { z.power with pendingSupply := false } } : ChannelState).mark s.uptime .lockOn 0).flag .lock) =
        x.lockedOut s.now s.uptime := by
    obtain ⟨⟨state, holdoffEnd, pendingSupply, pgRaw, pgQualified, pgSince, button, reset, rest⟩, others⟩ := x
    cases button <;> cases reset <;> rfl
  dsimp only at hlock hrecord
  rw [hlock, hrecord, State.running, State.run, chan_putChan, context_lockedOut]

end Lock

theorem execLockQualifiedLocked_eq (s : State) (c : Channel) :
    execLockQualifiedLocked c s = .next (match (s.chan c).power.lockSince with
      | none => s
      | some since => if (s.chan c).power.locked then s else lockOn c (s.at (since + 50 * 256000))) := by
  dsimp only [execLockQualifiedLocked]
  cases (s.chan c).power.lockSince <;> cases (s.chan c).power.locked <;> rfl

/-- Settles O9: LOCKED cuts both pulses short in one record, and FREE writes a marker only. -/
theorem lockQualifyingActsByItsLevel : Obligations.LockQualifyingActsByItsLevel := by
  refine ⟨fun s c => ?_, fun s c => ?_⟩
  · refine (execLockQualifiedLocked_eq s c).trans (congrArg Host.Outcome.next ?_)
    dsimp only
    cases (s.chan c).power.lockSince with
    | none => rfl
    | some since =>
      dsimp only
      rw [lockOn_record]
      rfl
  · refine congrArg Host.Outcome.next ?_
    dsimp only
    cases (s.chan c).power.lockSince with
    | none => rfl
    | some since =>
      cases (s.chan c).power.locked with
      | false => rfl
      | true => exact marker_putChan (s := s.at (since + 50 * 256000)) (c := c) _ .lockOff 0

end Sys2Proof.Machine

/-! # Power-good qualified -/

namespace Sys2Proof.Machine

section OtherLink

variable (s : State) (l : Link) (c : Channel)

/-! ## Power-good and the slots with another link -/

theorem startRun_withLink (k : RecipeNo) (o : RunSource) :
    startRun c k o (s.withLink l) = (startRun c k o s).withLink l :=
  let r : Run := ⟨k, 0, .none, none, none, 0, [], o, s.uptime⟩
  runSteps_withLink (setRun c r (marker c .runStart (k.val + 256 * o.code)
    (modContext c (fun _ => ⟨some r, .none, s.uptime⟩) s))) l c (255 - r.instants) r

theorem deliver_withLink (e : TriggerEvent) : deliver c e (s.withLink l) = (deliver c e s).withLink l := by
  unfold deliver
  induction List.finRange 4 with
  | nil => rfl
  | cons i rest ih =>
    have hfires : slotFires c e i (s.withLink l) = slotFires c e i s := rfl
    unfold examineSlots
    rw [hfires]
    cases slotFires c e i s with
    | none => exact ih
    | some r =>
      dsimp only [fire]
      rw [← startRun_withLink]
      exact congrArg (startRun c r (.slot i)) (ite_withLink rfl rfl)

theorem enterOn_withLink : enterOn c (s.withLink l) = (enterOn c s).withLink l := by
  have hsignal (t : State) : powerUpSignal c (t.withLink l) = (powerUpSignal c t).withLink l := by
    unfold powerUpSignal
    rw [relearn_withLink]
    exact ite_withLink rfl rfl
  have hgate (t : State) : openWatchGate c (t.withLink l) = (openWatchGate c t).withLink l := ite_withLink rfl rfl
  unfold enterOn openTxGate
  simp [hsignal, hgate]

theorem leaveOn_tell_withLink {tell : State → State} (htell : ∀ t, tell (t.withLink l) = (tell t).withLink l)
    (cause : OffCause) : leaveOn tell c cause (s.withLink l) = (leaveOn tell c cause s).withLink l := by
  have hleft (t : State) := leaveOn_putChan (s := t) (c := c) (t.chan c) tell cause
  have hs := hleft s
  have hl := hleft (s.withLink l)
  rw [putChan_chan] at hs hl
  rw [hs, hl]
  refine ite_withLink ?_ rfl
  dsimp only
  exact (congrArg (fun t : State => t.putChan c ((t.chan c).frozen t.now)) (htell (s.putChan c _))).trans rfl

/-- What power-good does in ON once it has qualified LOW (R3, R10). -/
def fallPg (c : Channel) (s : State) : State :=
  s |> modPower c (fun p => { p with state := .off })
    |> leaveOn (tellRun c .breakEnded) c (offCause c s)
    |> (if offCause c s = .spontaneous then deliver c .spontaneousOff else id)
    |> tellRun c (.power false)

/-- What power-good does in OFF once it has qualified HIGH (R3). -/
def risePg (c : Channel) (s : State) : State := tellRun c (.power true) (enterOn c s)

/-- The qualified level takes the raw one. -/
def takePg (c : Channel) (s : State) : State :=
  modPower c (fun p => { p with pgQualified := (s.chan c).power.pgRaw, pgSince := none }) s

theorem pgCases {α : Type} (v : PowerState) (level : Bool) (x y z : α) :
    (match v, level with | .off, true => x | .on, false => y | _, _ => z) =
      if v = .off ∧ level = true then x else if v = .on ∧ level = false then y else z := by
  cases v <;> cases level <;> rfl

theorem qualifyPg_eq : qualifyPg c s =
    if (s.chan c).power.state = .off ∧ (s.chan c).power.pgRaw = true then risePg c (takePg c s)
    else if (s.chan c).power.state = .on ∧ (s.chan c).power.pgRaw = false then fallPg c (takePg c s)
    else takePg c s := by
  have hcases : qualifyPg c s = match (s.chan c).power.state, (s.chan c).power.pgRaw with
    | .off, true => risePg c (takePg c s)
    | .on, false => fallPg c (takePg c s)
    | _, _ => takePg c s := rfl
  exact hcases.trans (pgCases _ _ _ _ _)

theorem fallPg_withLink : fallPg c (s.withLink l) = (fallPg c s).withLink l := by
  have hleft := leaveOn_tell_withLink (modPower c (fun p => { p with state := .off }) s) l c
    (fun t => tellRun_withLink t l c .breakEnded) (offCause c s)
  unfold fallPg
  rw [← tellRun_withLink]
  refine congrArg (tellRun c (.power false)) ?_
  refine (congrArg (if offCause c s = .spontaneous then deliver c .spontaneousOff else id) hleft).trans ?_
  split
  · exact deliver_withLink _ l c _
  · rfl

theorem qualifyPg_withLink : qualifyPg c (s.withLink l) = (qualifyPg c s).withLink l := by
  rw [qualifyPg_eq, qualifyPg_eq]
  refine ite_withLink ?_ (ite_withLink (fallPg_withLink (takePg c s) l c) rfl)
  unfold risePg
  rw [← tellRun_withLink, ← enterOn_withLink]
  rfl

end OtherLink

/-- Settles O10: a timing long enough for the new qualify time qualifies as its own event would. -/
theorem powerSettingsAreClamped : Obligations.PowerSettingsAreClamped := by
  intro s tag ch q m hr
  have hlink (c : Channel) (l : Link) (t : State) : qualifyIfDue c (t.withLink l) = (qualifyIfDue c t).withLink l := by
    unfold qualifyIfDue
    rw [chan_withLink]
    cases (t.chan c).power.pgSince with
    | none => rfl
    | some since => exact ite_withLink (qualifyPg_withLink t l c) rfl
  refine (exec_onChannel (fun c l _ => congrArg (fun t : State => (t, (⟨.ok, put1 (clamp 1 250 q.toNat) ++
    put1 (clamp 1 60 m.toNat)⟩ : Answer))) (hlink c l (modPower c (fun p => { p with
      qualifyTime := clamp 1 250 q.toNat, minimumOff := clamp 1 60 m.toNat }) s))) hr rfl rfl rfl).trans ?_
  refine congrArg Host.Outcome.next ?_
  cases ident? 8 ch with
  | none => rfl
  | some c =>
    dsimp only [done, State.reply, qualifyIfDue, modPower]
    rw [chan_modChan]
    rfl

end Sys2Proof.Machine

/-! # Nothing that an event does carries the clock on by itself -/

namespace Sys2Proof.Machine

section Clock

variable (s : State) (c : Channel) (d : DriveNo)

/-! ## The pool and the cache -/

theorem now_foldl {α : Type} {f : State → α → State} (h : ∀ s a, (f s a).now = s.now) (as : List α) :
    (as.foldl f s).now = s.now := by
  induction as generalizing s with
  | nil => rfl
  | cons a as ih => rw [List.foldl_cons, ih, h]

variable {s} in
theorem now_ite {p : Prop} [Decidable p] {t u : State} (ht : t.now = s.now) (hu : u.now = s.now) :
    (if p then t else u).now = s.now := by
  split
  · exact ht
  · exact hu

theorem now_joinWant (i : Nat) : (joinWant c d i s).now = s.now := by
  unfold joinWant
  split <;> rfl

theorem now_createWant (i : Nat) (cs : List Channel) : (createWant d i cs s).now = s.now := takePage_now

theorem now_readahead (n i : Nat) : (readahead d n i s).now = s.now := by
  induction n generalizing i s with
  | zero => rfl
  | succ n ih =>
    unfold readahead
    split
    · rfl
    · split
      · exact ih _ _
      · split
        · exact (ih _ _).trans (now_createWant s d i [])
        · rfl

theorem now_demandWant (i : Nat) : (demandWant c d i s).now = s.now := by
  unfold demandWant
  split
  · rfl
  · split
    · rfl
    · exact (now_readahead _ d _ _).trans (now_createWant s d i [c])

theorem now_pageStep (r : Request) : (pageStep c d r s).1.now = s.now := by
  unfold pageStep readStep writeStep
  dsimp only
  repeat' split
  any_goals rfl
  · exact now_demandWant s c d _
  · exact now_joinWant s c d _
  · exact now_joinWant s c d _
  · exact takePage_now
  · exact now_demandWant s c d _

theorem now_carryOn (n : Nat) : (carryOn c d n s).now = s.now := by
  induction n generalizing s with
  | zero => rfl
  | succ n ih =>
    unfold carryOn
    split
    · rfl
    · split
      · rfl
      · dsimp only
        split
        · exact (ih _).trans (now_pageStep s c d _)
        · exact now_pageStep s c d _

theorem now_resumeRequest : (resumeRequest c s).now = s.now := by
  unfold resumeRequest
  split
  · exact now_carryOn _ c _ _
  · rfl

theorem now_servePages : (servePages s).now = s.now := by
  suffices h : ∀ n s, (servePageWaiters n s).now = s.now from h _ s
  intro n
  induction n with
  | zero => intro s; rfl
  | succ n ih =>
    intro s
    unfold servePageWaiters
    split
    · rfl
    · split
      · exact (ih _).trans (now_resumeRequest _ _)
      · rfl

theorem now_serveEntries : (serveEntries s).now = s.now := by
  suffices h : ∀ n s, (serveEntryWaiters n s).now = s.now from h _ s
  intro n
  induction n with
  | zero => intro s; rfl
  | succ n ih =>
    intro s
    unfold serveEntryWaiters
    split
    · rfl
    · split
      · exact (ih _).trans (now_resumeRequest _ _)
      · rfl

theorem now_testDrain : (testDrain d s).now = s.now := by
  unfold testDrain
  split <;> rfl

/-! ## The drives -/

theorem now_insertDrive : (insertDrive d c s).now = s.now := by
  unfold insertDrive wakePort
  split <;> rfl

theorem now_enterDraining (own : Bool) (why : OutReason) : (enterDraining own d why s).now = s.now := by
  unfold enterDraining
  split
  · rfl
  next ch _ =>
    rw [now_serveEntries, now_servePages, now_testDrain]
    refine (now_foldl (f := fun s (w : Want) => removeWant w.number (dropPage d w.page s)) _ (fun _ _ => rfl) _).trans ?_
    cases own <;> rfl

theorem now_ejectDrive (force : Bool) (why : OutReason) (t : State) (h : ejectDrive d force why s = some t) :
    t.now = s.now := by
  have hin : (if !s.lockOf d then enterDraining false d why s else if force then enterDraining false d .forced s
      else raiseDrive d (modDrive d (fun x => { x with ejectRequested := true, state := .ejectWait }) s)).now = s.now :=
    now_ite (now_enterDraining s d _ _) (now_ite (now_enterDraining s d _ _) rfl)
  unfold ejectDrive at h
  dsimp only at h
  split at h
  · exact Option.some.inj h ▸ hin
  · exact Option.some.inj h ▸ hin
  · exact Option.some.inj h ▸ now_ite (now_enterDraining s d _ _) rfl
  · cases h

/-! ## The power and the transmitter -/

theorem now_arbitrate : (arbitrate c s).now = s.now := now_ite rfl rfl

theorem now_cutShort (l : Line) (which : Origin → Bool) : (cutShort c l which s).now = s.now := by
  unfold cutShort
  split
  · rfl
  · split <;> rfl

theorem now_cutPower : (cutPower c s).now = s.now := by
  rw [cutPower_eq]
  unfold cutOf
  dsimp only
  split <;> rfl

theorem now_supplyPower : (supplyPower c s).now = s.now := by
  rw [supplyPower_eq]
  unfold supplyOf
  dsimp only
  split <;> rfl

/-! ## The Recipe Engine -/

theorem now_emptySlot : (emptySlot c s).now = s.now := now_arbitrate _ c

theorem now_endRun (x : RunResult) : (endRun c x s).now = s.now := by
  simp only [endRun, modContext, raise, marker, modStore, modChan_now, now_emptySlot, now_cutShort]

variable {s} in
theorem now_taken_ite {p : Prop} [Decidable p] {x y : State × Taken} (hx : x.1.now = s.now) (hy : y.1.now = s.now) :
    (if p then x else y).1.now = s.now := by
  split
  · exact hx
  · exact hy

theorem now_insertStep : (insertStep c d s).1.now = s.now := by
  unfold insertStep
  refine now_taken_ite rfl ?_
  split
  · rfl
  · exact now_insertDrive s c d

theorem now_ejectStep (force : Bool) : (ejectStep c d force s).1.now = s.now := by
  unfold ejectStep
  refine now_taken_ite ?_ rfl
  split
  next t h => exact now_ejectDrive s d force _ t h
  · rfl

theorem now_relearn : (relearn c s).now = s.now := by
  rw [relearn_eq_relearned]
  rfl

theorem now_act (r : Run) (x : RecipeStep) : (act c r s x).1.now = s.now := by
  cases x with
  | pressButton n => exact now_taken_ite rfl rfl
  | pulseReset n => exact now_taken_ite rfl rfl
  | cutPower => exact now_cutPower s c
  | supplyPower => exact now_supplyPower s c
  | waitPower on t => exact now_taken_ite rfl rfl
  | waitMatch u t => exact now_taken_ite rfl (now_taken_ite rfl rfl)
  | armMatch u => exact now_taken_ite rfl rfl
  | sendKeys k i => exact now_taken_ite rfl (now_arbitrate _ c)
  | stopKeys => exact now_emptySlot s c
  | relearnBaud => exact now_relearn s c
  | sendBreak n => exact now_taken_ite rfl (now_arbitrate _ c)
  | insertMedia d => exact now_insertStep s c d
  | ejectMedia d force => exact now_ejectStep s c d force
  | waitActivity n t => rfl
  | waitQuiet q t => rfl
  | waitHeartbeat t => rfl
  | delay n => rfl
  | branch o t => rfl
  | call k => rfl
  | ret pass => rfl
  | finish code => rfl

theorem now_takeStep (r : Run) : (takeStep c r s).1.now = s.now := by
  unfold takeStep
  split
  · rfl
  · exact now_act s c r _

theorem now_settle {r : Run} {next : Run → State → State} (h : ∀ r t, (next r t).now = t.now) (x : State × Taken) :
    (settle c r next x).now = x.1.now := by
  obtain ⟨t, taken⟩ := x
  cases taken with
  | done o => exact h _ t
  | waits w n => rfl
  | moves r' => exact h r' t
  | ends result => exact now_endRun t c result

theorem now_runSteps (n : Nat) (r : Run) : (runSteps c n r s).now = s.now := by
  induction n generalizing s r with
  | zero => exact (now_settle c (fun _ t => now_endRun t c .loop) _).trans (now_takeStep s c r)
  | succ n ih => exact (now_settle c (fun _ t => ih t _) _).trans (now_takeStep s c r)

theorem now_finishWait (o : StepOutcome) : (finishWait c o s).now = s.now := by
  unfold finishWait
  split
  · rfl
  · exact now_runSteps _ c _ _

theorem now_tellRun (e : RunEvent) : (tellRun c e s).now = s.now := by
  have hfinish (o : StepOutcome) := now_finishWait s c o
  unfold tellRun
  split
  · rfl
  · split
    · exact now_ite (hfinish .met) rfl
    · exact now_ite (hfinish .met) rfl
    · exact hfinish .met
    · exact hfinish .met
    · exact now_ite (now_finishWait _ c .met) rfl
    · exact now_ite (hfinish .failed) rfl
    · exact now_ite (hfinish .met) rfl
    · rfl
    · exact now_ite (hfinish .met) rfl
    · rfl

end Clock

end Sys2Proof.Machine

/-! # Entering and leaving ON -/

namespace Sys2Proof.Machine

section OnAndOff

variable {s : State} {c : Channel} (x : ChannelState)

theorem openWatchGate_putChan (hon : x.power.state = .on) : openWatchGate c (s.putChan c x) = s.putChan c
    (if x.watch.settings.enable then { x with watch := x.watch.opened s.now } else x) := by
  unfold openWatchGate State.powered
  rw [chan_putChan, putChan_ite, hon]
  refine if_congr (by simp) ?_ rfl
  exact modChan_putChan x _

theorem powerUpSignal_putChan : powerUpSignal c (s.putChan c x) = s.putChan c
    (if x.finder.settings.relearn then x.relearned s.now s.uptime else x) := by
  unfold powerUpSignal
  rw [relearn_eq_relearned, chan_putChan, putChan_putChan, putChan_ite]
  rfl

theorem openTxGate_putChan : openTxGate c (s.putChan c x) = s.putChan c
    (({ x with tx := { x.tx with slot := x.tx.slot.map (KeySlot.thaw s.now) } } : ChannelState).arbitrated s.now) := by
  unfold openTxGate modTx
  rw [modChan_putChan, arbitrate_putChan]
  rfl

theorem state_relearned (now : Nat) (time : Quad) : (x.relearned now time).power.state = x.power.state := by
  unfold ChannelState.relearned
  dsimp only
  split <;> rfl

/-- With the power ON the transmitter's gate opens on a record: the countdown resumed, and the arbiter at a byte
boundary (R72). -/
theorem arbitrated_thawed (now : Nat) (hon : x.power.state = .on) :
    let resumed := { x.tx with slot := x.tx.slot.map (KeySlot.thaw now) }
    ({ x with tx := resumed } : ChannelState).arbitrated now = { x with
      tx := if x.tx.char.isNone && !x.tx.breaking && !x.tx.settling then resumed.arbitrate now x.finder.divisor
        else resumed } := by
  intro resumed
  unfold ChannelState.arbitrated
  rw [apply_ite (fun t => ({ x with tx := t } : ChannelState))]
  refine if_congr ?_ rfl rfl
  simp only [hon, true_and, Bool.and_eq_true, Option.isNone_iff_eq_none, Bool.not_eq_true', and_assoc]
  rfl

/-- Entering ON is one record (R3). -/
theorem enterOn_eq : enterOn c (s.putChan c x) = s.putChan c (x.enteredOn s.now s.uptime) := by
  let powered := (({ x with power := { x.power with state := .on } } : ChannelState).mark s.uptime .powerOn 0).flag .power
  let watched := if powered.watch.settings.enable then { powered with watch := powered.watch.opened s.now } else powered
  let learnt := if watched.finder.settings.relearn then watched.relearned s.now s.uptime else watched
  have hwatched : watched.power.state = .on := by
    dsimp only [watched]
    split <;> rfl
  have hlearnt : learnt.power.state = .on := by
    dsimp only [learnt]
    split
    · exact (state_relearned watched _ _).trans hwatched
    · exact hwatched
  have hgate : enterOn c (s.putChan c x) = openTxGate c (powerUpSignal c (openWatchGate c (s.putChan c powered))) := by
    unfold enterOn modPower
    rw [modChan_putChan, marker_putChan, raise_putChan]
  rw [hgate, openWatchGate_putChan powered rfl, powerUpSignal_putChan, openTxGate_putChan]
  exact congrArg (s.putChan c) (arbitrated_thawed learnt s.now hlearnt)

/-- The first cause of R10's list whose condition holds. -/
def ChannelState.cause (x : ChannelState) (now : Nat) : OffCause :=
  if x.power.button.isSome ∨ now < x.power.buttonWindowEnd then .button
  else if x.power.reset.isSome ∨ now < x.power.resetWindowEnd then .reset
  else .spontaneous

theorem offCause_putChan : offCause c (s.putChan c x) = x.cause s.now := by
  unfold offCause ChannelState.cause
  rw [chan_putChan]
  have hor (a : Bool) (t : Nat) : (a || decide (s.now < t)) = true ↔ a = true ∨ s.now < t := by simp
  exact if_congr (hor _ _) rfl (if_congr (hor _ _) rfl rfl)

/-- The state once ON has been left: the run told of its break's end before the slot freezes (R3, R72). -/
theorem leaveOn_told (cause : OffCause) :
    leaveOn (tellRun c .breakEnded) c cause (s.putChan c x) =
      let z := x.leftOn s.now s.uptime cause
      let told := tellRun c .breakEnded (s.putChan c (x.breakTold s.now s.uptime cause))
      if x.tx.brk.map (·.origin) = some .run then told.putChan c ((told.chan c).frozen s.now) else s.putChan c z := by
  rw [leaveOn_putChan]
  dsimp only
  rw [now_tellRun, putChan_now]

end OnAndOff

/-- Settles O8: entering and leaving ON, each as one record before the run and the slots are told. -/
theorem powerGoodQualifies : Obligations.PowerGoodQualifies := by
  refine ⟨fun s c => rfl, fun s c => ?_⟩
  dsimp only
  rw [qualifyPg_eq, show takePg c s = s.putChan c { s.chan c with power := { (s.chan c).power with
    pgQualified := (s.chan c).power.pgRaw, pgSince := none } } from rfl]
  refine ite_congr rfl (fun _ => congrArg (tellRun c (.power true)) (enterOn_eq _)) fun _ =>
    ite_congr rfl (fun _ => congrArg (tellRun c (.power false)) ?_) fun _ => rfl
  rw [offCause_putChan, modPower, modChan_putChan, leaveOn_told]
  exact apply_ite (fun f : State → State => f _) _ _ _

end Sys2Proof.Machine

/-! # The Baud Finder and the Heartbeat Watch -/

namespace Sys2Proof.Machine

section Settings

variable {s : State} {c : Channel} (x : ChannelState)

/-! ## The settings (R30, R31, R39) -/

theorem setMode_eq (v : FinderState) (fixedRate rate : Nat) :
    setMode c v fixedRate rate s = s.putChan c ((s.chan c).moded s.now v fixedRate rate) := by
  have hput := putChan_chan s c
  unfold setMode resetProgress modFinder
  rw [← hput]
  simp only [modChan_putChan, raise_putChan, chan_putChan, putChan_putChan]
  rfl

/-- The watch's settings replaced, as one record: turning the enable on or off moves the gate (R35, R39). -/
def ChannelState.rewatched (x : ChannelState) (now : Nat) (v : WatchSettings) : ChannelState :=
  let u : Watch := { x.watch with settings := v }
  { x with watch :=
      if v.enable = x.watch.settings.enable then u
      else if v.enable then if x.power.state = .on then u.opened now else u
      else u.closed }

theorem setWatch_eq (v : WatchSettings) : setWatch c v s = s.putChan c ((s.chan c).rewatched s.now v) := by
  let y : ChannelState := { s.chan c with watch := { (s.chan c).watch with settings := v } }
  have hset : setWatch c v s =
      if v.enable && !(s.chan c).watch.settings.enable then openWatchGate c (s.putChan c y)
      else if (s.chan c).watch.settings.enable && !v.enable then closeWatchGate c (s.putChan c y)
      else s.putChan c y := rfl
  have hclose : closeWatchGate c (s.putChan c y) = s.putChan c { y with watch := y.watch.closed } := by
    unfold closeWatchGate modWatch
    rw [modChan_putChan]
  have hopen (hv : v.enable = true) : openWatchGate c (s.putChan c y) =
      s.putChan c { y with watch := if y.power.state = .on then y.watch.opened s.now else y.watch } := by
    by_cases hon : y.power.state = .on
    · rw [openWatchGate_putChan y hon, if_pos hon, show y.watch.settings.enable = true from hv]
      rfl
    · rw [if_neg hon]
      unfold openWatchGate State.powered
      rw [chan_putChan, decide_eq_false hon, Bool.and_false]
      rfl
  rw [hset, hclose]
  unfold ChannelState.rewatched
  cases hv : v.enable with
  | false => cases hx : (s.chan c).watch.settings.enable <;> rfl
  | true =>
    rw [hopen hv]
    cases hx : (s.chan c).watch.settings.enable <;> rfl

end Settings

/-- Settles O13: each handler written as one record, the gate opened or closed by its settings. -/
theorem monitorSettingsAreReplaced : Obligations.MonitorSettingsAreReplaced := by
  refine ⟨fun s tag ch mode rate hr => ?_, fun s tag ch w a b d e hr => ?_, fun s tag ch e w p q k hr => ?_⟩
  · refine (exec_onChannel (fun c l hl => ?_) hr rfl rfl rfl).trans ?_
    · unfold hostAuto hostFixed State.putRateTaken State.putModeFound State.unstatedBytes State.unstated
      simp only [setMode_eq]
      rw [show (s.withLink l).link.formed = s.link.formed from hl]
      exact ite_relinked (ite_relinked rfl rfl) (ite_relinked rfl rfl)
    · refine congrArg Host.Outcome.next ?_
      cases ident? 8 ch with
      | none => rfl
      | some c =>
        dsimp only
        unfold hostAuto hostFixed
        simp only [setMode_eq]
        by_cases h0 : mode = 0
        · subst h0
          have hmode : ¬ (0 : Byte) = 1 := by decide
          simp only [hmode, if_true, if_false, true_and]
          exact apply_ite (s.reply (Instr.setBaudMode tag ch 0 rate)) _ _ _
        · simp only [h0, if_false, false_and]
          exact apply_ite (s.reply (Instr.setBaudMode tag ch mode rate)) _ _ _
  · refine (exec_onChannelFlag (fun c on l _ => rfl) hr rfl rfl rfl).trans ?_
    rfl
  · refine (exec_onChannelFlag (fun c on l _ => ?_) hr rfl rfl rfl).trans ?_
    · simp only [setWatch_eq]
      rfl
    · simp only [setWatch_eq]
      rfl

section Windows

variable {s : State} {c : Channel} (x : ChannelState)

/-! ## The Baud Finder's windows (R22, R26, R27) -/

theorem resetProgress_putChan : resetProgress c (s.putChan c x) =
    s.putChan c { x with units := x.units.map fun u => { u with progress := 0 } } := by
  unfold resetProgress
  rw [modChan_putChan]

theorem lockAt_putChan (r : RateIx) : lockAt c r (s.putChan c x) = s.putChan c ((({ x with
    finder := { x.finder with state := .locked, lastLocked := r, divisor := divisorOf (tableRate r) }
    units := x.units.map fun u => { u with progress := 0 } } : ChannelState).mark s.uptime .baudLock r.val).flag .baud) := by
  unfold lockAt modFinder
  rw [modChan_putChan, marker_putChan, raise_putChan, resetProgress_putChan]
  rfl

theorem loseLock_putChan : loseLock c (s.putChan c x) = s.putChan c ((({ x with
    finder := { x.finder with state := .hunting, agreement := 0, candidate := none }
    units := x.units.map fun u => { u with progress := 0 } } : ChannelState).mark s.uptime .baudLost
      x.finder.lastLocked.val).flag .baud) := by
  unfold loseLock modFinder
  rw [modChan_putChan, chan_putChan, marker_putChan, raise_putChan, resetProgress_putChan]
  rfl

/-- The record once a window's verdict has been acted on, by state (R26, R27). -/
def ChannelState.judged (x : ChannelState) (time : Quad) (v : Verdict) : ChannelState :=
  let f := x.finder
  let quiet := x.units.map fun u => { u with progress := 0 }
  match f.state, v with
  | .hunting, .outOfTolerance => { x with finder := { f with agreement := 0, candidate := none } }
  | .hunting, .candidate r =>
    let n := if f.candidate = some r then f.agreement + 1 else 1
    if f.settings.agree ≤ n then
      (({ x with
          finder := { f with
            agreement := n, candidate := some r, state := .locked, lastLocked := r
            divisor := divisorOf (tableRate r) }
          units := quiet } : ChannelState).mark time .baudLock r.val).flag .baud
    else { x with finder := { f with agreement := n, candidate := some r } }
  | .locked, v =>
    if f.settings.threshold ≤ f.f ∧ v ≠ .candidate f.lastLocked then
      (({ x with
          finder := { f with state := .hunting, agreement := 0, candidate := none }
          units := quiet } : ChannelState).mark time .baudLost f.lastLocked.val).flag .baud
    else x
  | _, _ => x

theorem huntingEnd_putChan (v : Verdict) (hx : x.finder.state = .hunting) :
    huntingEnd c v (s.putChan c x) = s.putChan c (x.judged s.uptime v) := by
  obtain ⟨power, ⟨state, figures⟩, others⟩ := x
  obtain rfl : state = .hunting := hx
  unfold huntingEnd ChannelState.judged
  rw [chan_putChan]
  cases v with
  | candidate r =>
    dsimp only [modFinder]
    rw [modChan_putChan, lockAt_putChan, putChan_ite]
  | outOfTolerance => exact modChan_putChan _ fun x => { x with finder := { x.finder with agreement := 0, candidate := none } }
  | sparse => rfl
  | none => rfl

theorem lockedEnd_putChan (v : Verdict) (hx : x.finder.state = .locked) :
    lockedEnd c v (s.putChan c x) = s.putChan c (x.judged s.uptime v) := by
  obtain ⟨power, ⟨state, figures⟩, others⟩ := x
  obtain rfl : state = .locked := hx
  unfold lockedEnd ChannelState.judged
  rw [chan_putChan, loseLock_putChan]
  dsimp only
  rw [putChan_ite]

theorem settings_judged (time : Quad) (v : Verdict) : (x.judged time v).finder.settings = x.finder.settings := by
  unfold ChannelState.judged
  dsimp only
  have hite {p : Prop} [Decidable p] {y z : ChannelState} (hy : y.finder.settings = x.finder.settings)
      (hz : z.finder.settings = x.finder.settings) : (if p then y else z).finder.settings = x.finder.settings := by
    split
    · exact hy
    · exact hz
  split
  · rfl
  · exact hite rfl rfl
  · exact hite rfl rfl
  · rfl

/-- A window's verdict, none in FIXED (R22, R28). -/
def Finder.judgement (f : Finder) : Verdict :=
  if f.state = .fixed then .none else verdictOf f.q f.m f.settings.tolerance

/-- A window's verdict acted on, by the finder's state (R26 to R28). -/
def actOnWindow (c : Channel) (s : State) : State :=
  match (s.chan c).finder.state with
  | .hunting => huntingEnd c (s.chan c).finder.judgement s
  | .locked => lockedEnd c (s.chan c).finder.judgement s
  | .fixed => s

theorem baudWindow_eq_actOnWindow : baudWindow c s =
    let f := (s.chan c).finder
    modFinder c (fun g => { g with
      last := ⟨f.q, f.m, f.f, f.judgement, windowError f.q f.m⟩
      windowStart := f.windowStart + f.windowLength * 256000
      windowLength := g.settings.window, q := 0, m := none, f := 0 }) (actOnWindow c s) := rfl

theorem actOnWindow_putChan : actOnWindow c (s.putChan c x) = s.putChan c (x.judged s.uptime x.finder.judgement) := by
  unfold actOnWindow
  rw [chan_putChan]
  split
  next hx => exact huntingEnd_putChan x _ hx
  next hx => exact lockedEnd_putChan x _ hx
  next hx =>
    obtain ⟨power, ⟨state, figures⟩, others⟩ := x
    obtain rfl : state = .fixed := hx
    rfl

theorem baudWindow_putChan : baudWindow c (s.putChan c x) =
    let f := x.finder
    let y := x.judged s.uptime f.judgement
    s.putChan c { y with finder := { y.finder with
      last := ⟨f.q, f.m, f.f, f.judgement, windowError f.q f.m⟩
      windowStart := f.windowStart + f.windowLength * 256000, windowLength := f.settings.window
      q := 0, m := none, f := 0 } } := by
  rw [baudWindow_eq_actOnWindow, actOnWindow_putChan]
  unfold modFinder
  dsimp only
  rw [modChan_putChan, chan_putChan, settings_judged]

end Windows

/-- Settles O15: the end of a window by the finder's state. -/
theorem baudWindowsEndByState : Obligations.BaudWindowsEndByState := by
  intro s c
  have hwindow := baudWindow_putChan (s := s.at ((s.chan c).finder.windowStart +
    (s.chan c).finder.windowLength * 256000)) (c := c) (s.chan c)
  refine congrArg Host.Outcome.next ?_
  exact (congrArg (baudWindow c) (putChan_chan _ c).symm).trans hwindow

section Edges

variable {s : State} {c : Channel}

/-! ## The lines (R21, R34, R41) -/

/-- The finder once the run before an edge has been closed (R21, R22). -/
def Finder.closed (f : Finder) (t : Nat) : Finder :=
  match f.runStart with
  | none => f
  | some r => f.closeRun (min 65535 ((t - r) / 4))

theorem closed_eq (f : Finder) (t : Nat) : f.closed t =
    let n := match f.runStart with | none => 65535 | some r => min 65535 ((t - r) / 4)
    { f with
      q := if n < 65535 then min 65535 (f.q + 1) else f.q
      m := if n < 65535 then some (match f.m with | none => n | some m => min m n) else f.m } := by
  obtain ⟨state, fixedRate, lastLocked, divisor, candidate, agreement, windowStart, windowLength, q, m, errors, last,
    settings, rxdRaw, rxdLevel, edgeAt, runStart⟩ := f
  unfold Finder.closed
  cases runStart with
  | none => rfl
  | some r =>
    dsimp only [Finder.closeRun]
    split <;> rfl

theorem surviveEdge_eq (t : Nat) : surviveEdge c t s = s.putChan c ((s.chan c).edgeSurvived t) := by
  have hclosed : surviveEdge c t s = setFraming c ((s.chan c).framing.edge (s.chan c).finder.divisor t
      (s.chan c).finder.rxdRaw) (s.putChan c { s.chan c with finder := { (s.chan c).finder.closed t with
        rxdLevel := (s.chan c).finder.rxdRaw, edgeAt := none, runStart := some t } }) := rfl
  rw [hclosed, closed_eq, setFraming, modChan_putChan]
  rfl

theorem gateOpen_iff : gateOpen c s = true ↔ (s.chan c).watch.settings.enable = true ∧ (s.chan c).power.state = .on := by
  simp [gateOpen, State.powered]

theorem countEdge_putChan (x : ChannelState) : countEdge c (s.putChan c x) = s.putChan c { x with watch := { x.watch with
    count := if x.watch.settings.enable = true ∧ x.power.state = .on then min 65535 (x.watch.count + 1)
      else x.watch.count } } := by
  unfold countEdge modWatch
  rw [modChan_putChan]
  by_cases hopen : x.watch.settings.enable = true ∧ x.power.state = .on
  · rw [if_pos (gateOpen_iff.2 (by rwa [chan_putChan])), if_pos hopen]
  · rw [if_neg fun h => hopen (by simpa only [chan_putChan] using gateOpen_iff.1 h), if_neg hopen]

end Edges

/-- Settles O16: an edge survives by its age, and a qualified rise counts in an open window. -/
theorem inputEdgesAreFilteredAndQualified : Obligations.InputEdgesAreFilteredAndQualified := by
  refine ⟨fun s c => ?_, fun s c level gap => ?_, fun s c => ⟨?_, ?_⟩⟩
  · refine congrArg Host.Outcome.next ?_
    cases (s.chan c).finder.edgeAt with
    | none => rfl
    | some t => exact surviveEdge_eq t
  · refine congrArg Host.Outcome.next ?_
    dsimp only
    rw [show (s.advanceTicks gap).chan c = s.chan c from rfl]
    refine if_congr Iff.rfl rfl ?_
    cases (s.chan c).finder.edgeAt with
    | none => rfl
    | some e =>
      refine if_congr Iff.rfl rfl ?_
      rw [surviveEdge_eq, modFinder, modChan_putChan]
      rfl
  · refine congrArg Host.Outcome.next ?_
    cases (s.chan c).watch.since with
    | none => rfl
    | some t =>
      cases (s.chan c).watch.qualified with
      | true => rfl
      | false => exact countEdge_putChan (s := s.at (t + 512000)) { s.chan c with watch := { (s.chan c).watch with
          qualified := true, since := none } }
  · refine congrArg Host.Outcome.next ?_
    cases (s.chan c).watch.since with
    | none => rfl
    | some t => cases (s.chan c).watch.qualified <;> rfl

section HeartbeatWindows

variable {s : State} {c : Channel} (x : ChannelState)

/-! ## The Heartbeat Watch's windows (R36 to R38) -/

/-- The watch once its held count has been compared with SP2 (R36). -/
def Watch.streaked (w : Watch) (held : Nat) : Watch :=
  let low := decide (held < w.settings.sp2)
  let streak := if low then min 255 (w.lowStreak + 1) else 0
  let hangs : Bool := low && decide (w.state = .watching) && decide (w.settings.streak ≤ streak)
  { w with
    lowStreak := streak
    state := if hangs then .hung else if !low && decide (w.state = .hung) then .watching else w.state }

/-- The held count is below SP2 and the streak has come to the hang streak in WATCHING (R36). -/
def Watch.hangs (w : Watch) (held : Nat) : Bool :=
  decide (held < w.settings.sp2) && decide (w.state = .watching) &&
    decide (w.settings.streak ≤ (w.streaked held).lowStreak)

theorem compareLow_putChan (held : Nat) : compareLow c held (s.putChan c x) =
    let y := { x with watch := x.watch.streaked held }
    if x.watch.hangs held then deliver c .hang (s.putChan c ((y.mark s.uptime .hang 0).flag .hang))
    else s.putChan c y := by
  unfold compareLow modWatch Watch.hangs Watch.streaked raiseHang
  rw [chan_putChan]
  dsimp only
  by_cases hlow : held < x.watch.settings.sp2
  · by_cases hwatching : x.watch.state = .watching
    · by_cases hstreak : x.watch.settings.streak ≤ min 255 (x.watch.lowStreak + 1)
      · simp [hlow, hwatching, hstreak, modChan_putChan]
        rfl
      · simp [hlow, hwatching, hstreak, modChan_putChan]
    · simp [hlow, hwatching, modChan_putChan]
  · simp [hlow, modChan_putChan]

theorem compareFast_eq (held : Nat) : compareFast c held s =
    let z := s.chan c
    let fast := decide (z.watch.settings.sp1 < held)
    if fast && !z.watch.fastRaised then
      deliver c .fast (s.putChan c
        ((({ z with watch := { z.watch with fastRaised := true } } : ChannelState).mark s.uptime .fast 0).flag .fast))
    else if fast then s
    else s.putChan c { z with watch := { z.watch with fastRaised := false } } := by
  unfold compareFast
  dsimp only
  by_cases hfast : (s.chan c).watch.settings.sp1 < held
  · cases hraised : (s.chan c).watch.fastRaised with
    | true => simp [hfast]
    | false =>
      simp [hfast]
      rfl
  · simp [hfast]
    rfl

end HeartbeatWindows

/-- Settles O17: the count compared with SP2 and then with SP1, each as one record. -/
theorem heartbeatWindowsRaiseHangAndFast : Obligations.HeartbeatWindowsRaiseHangAndFast := by
  intro s c
  refine congrArg Host.Outcome.next ?_
  dsimp only
  refine if_congr gateOpen_iff ?_ rfl
  unfold watchWindow
  dsimp only
  rw [compareFast_eq, show ∀ t, holdCount c t = t.putChan c { t.chan c with watch := { (t.chan c).watch with
    held := (t.chan c).watch.count, heldAt := t.uptime, count := 0
    windowStart := (t.chan c).watch.windowStart + (t.chan c).watch.windowLength * 256000
    windowLength := (t.chan c).watch.settings.window } } from fun _ => rfl, compareLow_putChan]
  rfl

end Sys2Proof.Machine

/-! # The console: characters, capture, limits and reading -/

namespace Sys2Proof.Machine

section Capture

variable {s : State} {c : Channel} (x : ChannelState) {b : Byte}

/-! ## A byte captured (R44, R46, R47) -/

theorem needsPage_eq (st : Store) : st.needsPage = (decide (st.pages = []) || decide (st.next % 4096 = 0)) := by
  rw [Bool.eq_iff_iff, needsPage_iff]
  simp

theorem chan_takePage : (takePage s).chan c = s.chan c := congrArg (·.get c) takePage_channels

theorem captureByte_eq : captureByte c b s =
    if (s.chan c).store.next < 2 ^ 48 - 1 then (capturedOf c b s, true) else (s, false) := by
  unfold captureByte capturedOf needPage
  dsimp only
  rw [needsPage_eq]
  refine ite_congr rfl (fun _ => congrArg (·, true) ?_) fun _ => rfl
  cases hneeds : (decide ((s.chan c).store.pages = []) || decide ((s.chan c).store.next % 4096 = 0)) with
  | false => exact (modChan_putChan (s := s) (c := c) _ _).trans rfl
  | true =>
    have hgrants : grantsPage (s.chan c).store s = (decide ((s.chan c).store.pages.length < (s.chan c).store.floor) ||
      decide ((s.chan c).store.pages.length < (s.chan c).store.ceiling) && decide (s.unmet + 1 ≤ s.reclaimable)) := rfl
    rw [← hgrants]
    cases grantsPage (s.chan c).store s with
    | true =>
      have hgrown : modStore c Store.grow (takePage s) = (takePage s).putChan c { (takePage s).chan c with
          store := (s.chan c).store.grow } := by
        unfold modStore
        rw [modChan_eq_putChan, chan_takePage]
      simp only [Bool.not_true, Bool.false_eq_true, if_true, if_false, Bool.and_self]
      rw [hgrown, modStore, modChan_putChan, raise_putChan]
      rfl
    | false =>
      simp only [Bool.not_true, Bool.false_eq_true, if_false, Bool.and_false]
      rw [show modStore c Store.recycle s = s.putChan c { s.chan c with store := (s.chan c).store.recycle } from rfl,
        raise_putChan, modStore, modChan_putChan, raise_putChan]
      rfl

/-- A byte taken in by the channel's blocks (R43, R44, R57; log 14). -/
theorem acceptByte_eq : acceptByte c b s =
    let captured := decide ((s.chan c).store.next < 2 ^ 48 - 1)
    let t := (List.finRange 4).foldl (unitSees c b) (if captured then capturedOf c b s else s)
    if captured && s.waitsBytes c then tellRun c .byte t else t := by
  unfold acceptByte watchByte
  rw [captureByte_eq]
  by_cases hroom : (s.chan c).store.next < 2 ^ 48 - 1
  · simp only [if_pos hroom, decide_eq_true hroom, Bool.true_and, if_true]
  · simp only [if_neg hroom, decide_eq_false hroom, Bool.false_and, Bool.false_eq_true, if_false]

end Capture

section Characters

/-! ## The samples of a character (R41) -/

theorem putBits_eq_sum (l : List Bool) :
    putBits l = ((List.range l.length).map fun k => if l.getD k false then 2 ^ k else 0).sum := by
  induction l with
  | nil => rfl
  | cons b l ih =>
    have hdouble (k : Nat) : (if (b :: l).getD (k + 1) false then 2 ^ (k + 1) else 0) =
        2 * if l.getD k false then 2 ^ k else 0 := by
      rw [List.getD_cons_succ]
      split
      · rw [pow_succ, Nat.mul_comm]
      · rfl
    rw [putBits, ih, List.length_cons, List.range_succ_eq_map, List.map_cons, List.sum_cons, List.map_map]
    refine congrArg₂ (· + ·) rfl ?_
    rw [← List.sum_map_mul_left]
    exact congrArg List.sum (List.map_congr_left fun k _ => (hdouble k).symm)

theorem length_fullSamples (l : List Bool) (level : Bool) : 10 ≤ (fullSamples l level).length := by
  rw [fullSamples, List.length_append, List.length_replicate]
  omega

/-- The byte of a character is its eight middle samples, least significant first. -/
theorem byteOfBits_eq {l : List Bool} (hl : 10 ≤ l.length) : byteOfBits ((l.drop 1).take 8) =
    BitVec.ofNat 8 (((List.range 8).map fun k => if l.getD (k + 1) false then 2 ^ k else 0).sum) := by
  have hlength : ((l.drop 1).take 8).length = 8 := by
    rw [List.length_take, List.length_drop]
    omega
  rw [byteOfBits, putBits_eq_sum, hlength]
  refine congrArg (fun l : List Nat => BitVec.ofNat 8 l.sum) (List.map_congr_left fun k hk => ?_)
  have hk : k < 8 := List.mem_range.1 hk
  rw [List.getD_eq_getElem?_getD, List.getD_eq_getElem?_getD, List.getElem?_take_of_lt hk, List.getElem?_drop,
    Nat.add_comm]

end Characters

/-- Settles O18: a byte captured as one record, then handed to the units and the run. -/
theorem charactersAreAcceptedAndCaptured : Obligations.CharactersAreAcceptedAndCaptured := by
  refine ⟨fun s c => ⟨?_, ?_, ?_⟩, fun s c b => acceptByte_eq⟩
  · refine congrArg Host.Outcome.next ?_
    unfold State.sampled
    cases (s.chan c).framing with
    | waitHigh => rfl
    | waitStart => rfl
    | assemble since d l =>
      dsimp only
      rw [byteOfBits_eq (length_fullSamples _ _)]
      rfl
  · refine congrArg Host.Outcome.next ?_
    unfold State.sampled
    cases (s.chan c).framing with
    | waitHigh => rfl
    | waitStart => rfl
    | assemble since d l =>
      refine if_congr Iff.rfl ?_ rfl
      unfold countFraming setFraming modFinder
      rw [modChan_modChan]
      rfl
  · refine congrArg Host.Outcome.next ?_
    unfold State.sampled
    cases (s.chan c).framing with
    | waitHigh => rfl
    | waitStart => rfl
    | assemble since d l =>
      refine if_congr ?_ rfl rfl
      rw [List.isEmpty_iff]
      rfl

section Reading

variable {s : State} {c : Channel}

/-! ## Limits and reading (R48, R50, R54, R55) -/

/-- The record with limits replaced: pages shed down to the ceiling, with LOSS where any were (R48, R50). -/
def ChannelState.shed (x : ChannelState) (f l : Nat) : ChannelState :=
  let y := { x with store := x.store.limited f l }
  if x.store.pages.length - l = 0 then y else y.flag .loss

theorem setLimits_shed (f l : Nat) : setLimits c f l s = s.putChan c ((s.chan c).shed f l) := by
  unfold setLimits modStore ChannelState.shed
  dsimp only
  rw [modChan_eq_putChan, raise_putChan, putChan_ite, ← ite_not]
  exact if_congr (by omega) rfl rfl

theorem store_shed (x : ChannelState) (f l : Nat) : (x.shed f l).store = x.store.limited f l := by
  unfold ChannelState.shed
  dsimp only
  split <;> rfl

theorem bytesFrom_eq (st : Store) (p n : Nat) :
    st.bytesFrom p n = (List.range n).flatMap fun k => (st.byteAt (p + k)).toList := by
  induction n generalizing p with
  | zero => rfl
  | succ n ih =>
    rw [Store.bytesFrom, ih, List.range_succ_eq_map, List.flatMap_cons, List.flatMap_map]
    simp only [Nat.succ_eq_add_one, Nat.add_zero, Nat.add_assoc, Nat.add_comm 1]

end Reading

/-- Settles O19: the pages shed one after another come to one record, on which the guarantee is tested. -/
theorem captureLimitsKeepTheFloors : Obligations.CaptureLimitsKeepTheFloors := by
  intro s tag ch floor ceiling hr
  refine (exec_onChannel (fun c l _ => ?_) hr rfl rfl rfl).trans ?_
  · dsimp only
    rw [setLimits_shed, setLimits_shed]
    rw [show (s.withLink l).putChan c (((s.withLink l).chan c).shed _ _) =
      (s.putChan c ((s.chan c).shed _ _)).withLink l from rfl, servePages_withLink]
    exact ite_relinked rfl rfl
  · refine congrArg Host.Outcome.next ?_
    cases ident? 8 ch with
    | none => rfl
    | some c =>
      dsimp only
      rw [setLimits_shed, apply_ite (s.reply _)]
      refine if_congr Iff.rfl ?_ rfl
      unfold State.reply done Store.putLimits
      rw [chan_putChan, store_shed]
      rfl

/-- Settles O20: the handler's range and markers are those of the statement. -/
theorem consoleReadReturnsTheRange : Obligations.ConsoleReadReturnsTheRange := by
  intro s tag ch start maximum skip hr
  refine (exec_onChannel (fun c l _ => rfl) hr rfl rfl rfl).trans (congrArg Host.Outcome.next ?_)
  cases ident? 8 ch with
  | none => rfl
  | some c =>
    dsimp only [State.reply, done, Reading.bodyBytes, Store.read]
    rw [bytesFrom_eq]
    simp only [decide_eq_true_eq]
    rfl

end Sys2Proof.Machine

/-! # The Console Transmitter -/

namespace Sys2Proof.Machine

section Arbiter

variable (t : Transmitter) (now d : Nat)

/-! ## The arbiter's choice (R69, R70) -/

/-- A byte sent, or held while flow control is on and Sn_RTR deasserted (R70). -/
def Transmitter.sends (b : Byte) (slot : Option KeySlot) (queue : List Byte) : Transmitter :=
  if t.flow = true ∧ t.rtr = false then { t with hold := some (match t.hold with | some h => h | none => now) }
  else { t with char := some ⟨b, now, d⟩, hold := none, slot := slot, queue := queue }

/-- The oldest queued byte, or nothing (R69 order 4). -/
def Transmitter.sendsQueued : Transmitter :=
  match t.queue with
  | [] => { t with hold := none }
  | b :: rest => t.sends now d b t.slot rest

theorem arbitrate_chosen {x : Choice} (hbrk : t.brk = none) (hx : t.choice = some x) :
    t.arbitrate now d = t.sends now d x.byte (t.send now d x).slot (t.send now d x).queue := by
  obtain ⟨char, queue, slot, brk, hold, rtr, flow, limit, settling⟩ := t
  obtain rfl : brk = none := hbrk
  unfold Transmitter.arbitrate
  rw [hx]
  cases hold <;> exact if_congr (by simp) rfl rfl

theorem arbitrate_nothing (hbrk : t.brk = none) (hx : t.choice = none) :
    t.arbitrate now d = { t with hold := none } := by
  obtain ⟨char, queue, slot, brk, hold, rtr, flow, limit, settling⟩ := t
  obtain rfl : brk = none := hbrk
  unfold Transmitter.arbitrate
  rw [hx]

/-- Where the slot gives no choice the queue does. -/
theorem arbitrate_queued (hbrk : t.brk = none) (hslot : t.slot.bind KeySlot.choice = none) :
    t.arbitrate now d = t.sendsQueued now d := by
  have hchoice : t.choice = t.queue.head?.map .queued := by
    unfold Transmitter.choice
    rw [hslot]
  obtain ⟨char, queue, slot, brk, hold, rtr, flow, limit, settling⟩ := t
  cases queue with
  | nil => exact arbitrate_nothing _ now d hbrk hchoice
  | cons b rest => exact arbitrate_chosen _ now d hbrk hchoice

theorem arbitrate_slot {x : Choice} (hbrk : t.brk = none) (hslot : t.slot.bind KeySlot.choice = some x) :
    t.arbitrate now d = t.sends now d x.byte (t.send now d x).slot (t.send now d x).queue :=
  arbitrate_chosen t now d hbrk (by unfold Transmitter.choice; rw [hslot])

end Arbiter

/-- Settles O21: the arbiter's turn as one record. -/
theorem theArbiterChoosesInOrder : Obligations.TheArbiterChoosesInOrder := by
  refine ⟨fun s c => arbitrate_eq, fun t now d => ?_⟩
  obtain ⟨char, queue, slot, brk, hold, rtr, flow, limit, settling⟩ := t
  cases brk with
  | some b => rfl
  | none =>
    cases slot with
    | none => exact arbitrate_queued _ now d rfl rfl
    | some k =>
      obtain ⟨string, number, interval, due, countdown, progress, spent⟩ := k
      cases progress with
      | some p =>
        let t : Transmitter := ⟨char, queue, some ⟨string, number, interval, due, countdown, some p, spent⟩, none, hold, rtr,
          flow, limit, settling⟩
        have hchoice : t.slot.bind KeySlot.choice = string[p]?.map .passByte := rfl
        dsimp only
        cases hb : string[p]? with
        | some b => exact arbitrate_slot (x := .passByte b) t now d rfl (by rw [hchoice, hb]; rfl)
        | none => exact arbitrate_queued t now d rfl (by rw [hchoice, hb]; rfl)
      | none =>
        cases due with
        | false => exact arbitrate_queued _ now d rfl rfl
        | true =>
          cases string with
          | nil => exact arbitrate_queued _ now d rfl rfl
          | cons b rest => exact arbitrate_slot (x := .duePass b) _ now d rfl rfl

section Requests

variable {s : State} {c : Channel}

/-! ## The transmitter replaced, and its arbiter's turn -/

theorem modTx_arbitrate (f : Transmitter → Transmitter) : arbitrate c (modTx c f s) =
    s.putChan c (({ s.chan c with tx := f (s.chan c).tx } : ChannelState).arbitrated s.now) := arbitrate_putChan _

theorem powered_eq : s.powered c = decide ((s.chan c).power.state = .on) := rfl

theorem not_powered_iff : (!s.powered c) = true ↔ (s.chan c).power.state ≠ .on := by simp [powered_eq]

end Requests

/-- Settles O22: both requests take the arbiter's turn on the record they write. -/
theorem sendConsoleAndSendBreakAreTaken : Obligations.SendConsoleAndSendBreakAreTaken := by
  refine ⟨fun s tag ch bytes hr hlen => ?_, fun s tag ch duration hr => ?_, fun s c r n => ?_⟩
  · have hfit : fitsFrame (ch :: bytes).length = true := by
      simp only [fitsFrame, List.length_cons, decide_eq_true_eq]
      omega
    refine (exec_onChannel (i := .sendConsole tag ch bytes) (ch := ch) (fun c l _ => ?_) hr rfl hfit rfl).trans (congrArg Host.Outcome.next ?_)
    · dsimp only
      simp only [modTx_arbitrate]
      exact ite_relinked rfl rfl
    · cases ident? 8 ch with
      | none => rfl
      | some c =>
        dsimp only
        have htaken (k : Nat) : bytes.take k = bytes.take (min k bytes.length) := by
          rw [List.take_eq_take_iff]
          omega
        have hlength (k : Nat) : (bytes.take (min k bytes.length)).length = min k bytes.length := by
          rw [List.length_take]
          omega
        rw [modTx_arbitrate, apply_ite (s.reply _), htaken, hlength]
        exact if_congr not_powered_iff rfl rfl
  · refine (exec_onChannel (fun c l _ => ?_) hr rfl rfl rfl).trans (congrArg Host.Outcome.next ?_)
    · dsimp only [requestBreak]
      simp only [modTx_arbitrate]
      exact ite_relinked rfl (ite_relinked rfl rfl)
    · cases ident? 8 ch with
      | none => rfl
      | some c =>
        dsimp only [requestBreak]
        rw [modTx_arbitrate, apply_ite (s.reply _), apply_ite (s.reply _)]
        exact if_congr not_powered_iff rfl rfl
  · dsimp only [act, sendBreakStep, requestBreak]
    rw [modTx_arbitrate]
    exact if_congr (by simp [powered_eq]) rfl rfl

/-- Settles O23: the flush as one record. -/
theorem flushEmptiesTheQueue : Obligations.FlushEmptiesTheQueue := by
  intro s tag ch hr
  refine (exec_onChannel (fun c l _ => ?_) hr rfl rfl rfl).trans (congrArg Host.Outcome.next ?_)
  · simp only [modTx_arbitrate]
    rfl
  · simp only [modTx_arbitrate]
    rfl

section Moments

variable {s : State} {c : Channel} (x : ChannelState)

/-! ## Holds and stalls (R70, R71, R73) -/

theorem stall_putChan : stall c (s.putChan c x) = s.putChan c (x.stalled s.now s.uptime) := by
  unfold stall modTx
  rw [flushQueue_putChan, modChan_putChan, raise_putChan, modChan_putChan, arbitrate_putChan]
  obtain ⟨power, finder, watch, framing, store, ⟨char, queue, slot, brk, hold, rest⟩, others⟩ := x
  cases queue <;> rfl

theorem stall_eq : stall c s = s.putChan c ((s.chan c).stalled s.now s.uptime) := by
  have hstall := stall_putChan (s := s) (c := c) (s.chan c)
  rwa [putChan_chan] at hstall

theorem endHold_putChan : endHold c (s.putChan c x) = s.putChan c
    (if x.tx.hold.isSome then ({ x with tx := { x.tx with hold := none } } : ChannelState).arbitrated s.now else x) := by
  unfold endHold modTx
  rw [modChan_putChan, arbitrate_putChan, chan_putChan, putChan_ite]

/-- The record after its transmit settings were replaced (R70, R71, R73; log 29). -/
def ChannelState.transmitSet (x : ChannelState) (now : Nat) (time : Quad) (on : Bool) (n : Nat) : ChannelState :=
  let y := { x with tx := { x.tx with flow := on, stallLimit := n } }
  match x.tx.hold with
  | none => y
  | some t =>
    if !on then ({ y with tx := { y.tx with hold := none } } : ChannelState).arbitrated now
    else if n ≠ 0 ∧ t + n * 1000 * 256000 ≤ now then y.stalled now time
    else y

theorem setTransmit_eq (on : Bool) (n : Nat) :
    (if on then stallIfDue c (modTx c (fun t => { t with flow := on, stallLimit := n }) s)
      else endHold c (modTx c (fun t => { t with flow := on, stallLimit := n }) s)) =
    s.putChan c ((s.chan c).transmitSet s.now s.uptime on n) := by
  rw [modTx, modChan_eq_putChan, endHold_putChan]
  unfold stallIfDue ChannelState.transmitSet
  rw [stall_putChan, chan_putChan]
  generalize s.chan c = x
  obtain ⟨power, finder, watch, framing, store, ⟨char, queue, slot, brk, hold, rest⟩, others⟩ := x
  cases hold with
  | none => cases on <;> rfl
  | some since =>
    cases on with
    | false => rfl
    | true => exact (putChan_ite _ _ _).symm

/-! ## The ends of a character and of a break (R65, R68) -/

/-- The last step of either end: the mark cleared and the arbiter's choice (log 33). -/
def chooses (c : Channel) (t : State) : State :=
  let y := t.chan c
  t.putChan c (({ y with tx := { y.tx with settling := false } } : ChannelState).arbitrated t.now)

theorem settleEnd_chooses (f : State → State) : settleEnd c f s =
    chooses c (f (s.putChan c { s.chan c with tx := { (s.chan c).tx with settling := true } })) := by
  rw [settleEnd_eq]
  exact arbitrate_putChan _

theorem endPass_putChan : endPass c (s.putChan c x) = match x.tx.slot with
    | none => s.putChan c x
    | some v =>
      if v.progress = some v.string.length then
        let u := s.putChan c { x with tx := { x.tx with
          slot := some { v with progress := none, spent := v.spent || v.interval = 0 } } }
        if v.interval = 0 then tellRun c .passDone u else u
      else s.putChan c x := by
  unfold endPass modTx
  rw [chan_putChan, modChan_putChan]
  obtain ⟨power, finder, watch, framing, store, ⟨char, queue, slot, brk, hold, rest⟩, others⟩ := x
  cases slot with
  | none => rfl
  | some v => exact if_congr (by simp [KeySlot.allSent]) rfl rfl

/-! ## The line (R60) -/

theorem level_eq (k : TxChar) (now : Nat) : k.level now =
    let n := (now - k.since) / k.divisor
    if n = 0 then false else if n ≤ 8 then k.byte.getLsbD (n - 1) else true := by
  unfold TxChar.level
  dsimp only
  cases (now - k.since) / k.divisor with
  | zero => rfl
  | succ n => rfl

end Moments

/-- Settles O24: each moment of the transmitter as one record, the arbiter choosing last. -/
theorem theTransmitterActsAtItsMoments : Obligations.TheTransmitterActsAtItsMoments := by
  refine ⟨fun s tag ch flow limit hr => ?_, fun s c => ⟨?_, ?_, ?_, ?_, ?_, ?_, ?_, ?_⟩⟩
  · refine (exec_onChannelFlag (fun c on l _ => ?_) hr rfl rfl rfl).trans ?_
    · dsimp only
      simp only [setTransmit_eq]
      rfl
    · simp only [setTransmit_eq]
      rfl
  · refine congrArg Host.Outcome.next ?_
    dsimp only
    cases (s.chan c).tx.char with
    | none => rfl
    | some k =>
      dsimp only
      rw [settleEnd_chooses, modTx, modChan_putChan, endPass_putChan]
      rfl
  · refine congrArg Host.Outcome.next ?_
    cases (s.chan c).tx.brk with
    | none => rfl
    | some b =>
      obtain ⟨origin, duration, since⟩ := b
      cases since with
      | none => rfl
      | some since =>
        dsimp only
        rw [settleEnd_chooses, endBreak_putChan]
        rfl
  · refine congrArg Host.Outcome.next ?_
    cases (s.chan c).tx.slot with
    | none => rfl
    | some k =>
      cases k.countdown <;> rfl
  · refine congrArg Host.Outcome.next ?_
    dsimp only
    cases (s.chan c).tx.hold with
    | none => rfl
    | some since =>
      dsimp only
      rw [stall_eq]
      rfl
  · exact rfl
  · refine congrArg Host.Outcome.next ?_
    rw [if_pos rfl, modTx, modChan_eq_putChan, endHold_putChan, arbitrate_putChan, putChan_ite]
  · unfold State.txd
    cases s.txState c with
    | sending =>
      cases (s.chan c).tx.char with
      | none => rfl
      | some k => exact level_eq k s.now
    | gated => rfl
    | idle => rfl
    | breaking => rfl
    | held => rfl
  · exact if_congr not_powered_iff rfl rfl

end Sys2Proof.Machine

/-! # Hits, trigger slots and the Change Report (R81, R165 to R173) -/

namespace Sys2Proof.Machine

section Hits

variable {s : State} {c : Channel} {u : UnitNo} {b : Byte} {v : MatchUnit}

/-! ## A match completed (R81) -/

theorem afterHit_putChan (x : ChannelState) : afterHit c u (s.putChan c x) =
    deliver c (.matched u) (tellRun c (.hit u) (s.putChan c ((x.mark s.uptime .matched u.val).flag .matched))) := by
  unfold afterHit
  rw [marker_putChan, raise_putChan]

/-- A byte handed to a unit: the unit's record replaced, and the steps of a hit where it completes the match. -/
theorem unitSees_eq : unitSees c b s u =
    let x := s.chan c
    let y : ChannelState := { x with units := x.units.set u ((x.units.get u).see b) }
    if (x.units.get u).completes b then
      deliver c (.matched u) (tellRun c (.hit u) (s.putChan c ((y.mark s.uptime .matched u.val).flag .matched)))
    else s.putChan c y := by
  unfold unitSees
  rw [modUnit_eq_putUnitRecord, State.putUnitRecord]
  dsimp only
  rw [afterHit_putChan]
  rfl

/-- A completed match, but for the progress. -/
theorem see_hit (h : v.completes b = true) : v.see b = { v with
    hits := min 255 (v.hits + 1), pending := true, state := if v.counting then .armed else .hit
    progress := (v.see b).progress } := by
  rw [see_of_completes h]
  rfl

/-- A byte that completes no match moves the progress of an ARMED unit at most. -/
theorem see_no_hit (h : v.completes b = false) :
    v.see b = if v.state = .armed then { v with progress := (v.see b).progress } else v := by
  by_cases hv : v.state = .armed
  · rw [if_pos hv, see_of_not_completes hv h]
  · rw [if_neg hv, see_of_not_armed hv]

theorem completes_of_not_armed (hv : v.state ≠ .armed) : v.completes b = false := by
  simp [MatchUnit.completes, hv]

theorem unitSees_of_not_armed (hv : ((s.chan c).units.get u).state ≠ .armed) : unitSees c b s u = s := by
  rw [unitSees_eq]
  simp only [completes_of_not_armed hv, see_of_not_armed hv, Table.set_get, Bool.false_eq_true, if_false]
  exact putChan_chan s c

/-- Settles O25: a unit that sees a byte, by whether the match completes and whether it is ARMED. -/
theorem aHitActsInOrder : Obligations.AHitActsInOrder := fun _ _ _ _ =>
  ⟨unitSees_eq, see_hit, see_no_hit, unitSees_of_not_armed⟩

end Hits

section Slots

variable {s : State} {c : Channel} {n : SlotNo} {i : Instr} {f : RequestFrame} {ch slot : Byte}

/-! ## A request that names a slot -/

/-- A request that names a channel and a slot: BAD_VALUE, or what its rule does to that slot. -/
theorem exec_onSlot {g : Channel → SlotNo → Handler} (hg : ∀ c n, SameLinked (g c n) s)
    (hr : s.ready = true) (hf : i.request? = some f) (hfit : fitsFrame f.body.length = true)
    (hx : exec i s = .next (takeRequest i (onSlot ch slot g) s)) :
    exec i s = .next (match ident? 8 ch, ident? 4 slot with
      | some c, some n => s.reply i (g c n s)
      | _, _ => s.answered i s .badValue []) := by
  have hslot (c : Channel) : SameLinked (fun s => match ident? 4 slot with
      | none => answers .badValue [] s
      | some n => g c n s) s := by
    intro l hl
    cases ident? 4 slot with
    | none => rfl
    | some n => exact hg c n l hl
  rw [exec_onChannel hslot hr hf hfit hx]
  cases ident? 8 ch <;> cases ident? 4 slot <;> rfl

/-! ## Set Trigger and Rearm Trigger (R165, R169) -/

/-- The event a Set Trigger's kind byte spells (R165). -/
def eventKind (event unit : Byte) : Option TriggerEvent := match event.toNat with
  | 0 => some .hang
  | 1 => some .fast
  | 2 => some .spontaneousOff
  | 3 => (ident? 4 unit).map .matched
  | _ => none

/-- The recipe or none that a presence byte and a number spell (R165). -/
def recipeNamed (given recipe : Byte) : Option (Option RecipeNo) := match given.toNat with
  | 0 => some none
  | 1 => (ident? 8 recipe).map some
  | _ => none

theorem eventOf_eq (event unit : Byte) : eventOf event unit = eventKind event unit := by
  unfold eventOf eventKind
  simp only [BitVec.toNat_eq]
  generalize event.toNat = k
  match k with
  | 0 | 1 | 2 | 3 => rfl
  | k + 4 => simp

theorem recipeOf_eq (given recipe : Byte) : recipeOf given recipe = recipeNamed given recipe := by
  unfold recipeOf recipeNamed
  simp only [BitVec.toNat_eq]
  generalize given.toNat = k
  match k with
  | 0 | 1 => rfl
  | k + 2 => simp

theorem unstated_withLink {l : Link} (hl : l.formed = s.link.formed) {k : Nat} :
    (s.withLink l).unstated k = s.unstated k := congrArg (Config.unstatedByte · k) hl

/-- The slot a Set Trigger writes, with the fields clamped as R165 says. -/
theorem setTo_clamped (e : TriggerEvent) (r : Option RecipeNo) (holdoff limit : Nat) :
    TriggerSlot.setTo e r (clamp 10 3600 holdoff) (clamp 0 15 limit) =
      ⟨e, r, max 10 (min 3600 holdoff), min 15 limit, 0, none, none, if r = none then .off else .armed⟩ := by
  cases r <;> simp [TriggerSlot.setTo, clamp]

/-- The state after a Set Trigger that is taken, with its reply. -/
def State.slotSet (s : State) (i : Instr) (c : Channel) (n : SlotNo) (e : TriggerEvent) (r : Option RecipeNo)
    (holdoff limit : Nat) : State :=
  let x := s.chan c
  let v : TriggerSlot := ⟨e, r, max 10 (min 3600 holdoff), min 15 limit, 0, none, none, if r = none then .off else .armed⟩
  s.answered i (s.putChan c { x with slots := x.slots.set n v }) .ok
    (e.bytes (s.unstated 0) ++ putRecipe r ++ put2 v.holdoff ++ put1 v.limit ++ put1 v.state.code)

theorem exec_setTrigger (s : State) (tag ch slot event unit given recipe : Byte) (holdoff : Half) (limit : Byte)
    (hr : s.ready = true) :
    let i := Instr.setTrigger tag ch slot event unit given recipe holdoff limit
    exec i s = .next (match ident? 8 ch, ident? 4 slot, eventKind event unit, recipeNamed given recipe with
      | some c, some n, some e, some r => s.slotSet i c n e r holdoff.toNat limit.toNat
      | _, _, _, _ => s.answered i s .badValue []) := by
  refine (exec_onSlot (fun c n l hl => ?link) hr rfl rfl rfl).trans (congrArg Host.Outcome.next ?_)
  case link =>
    dsimp only
    cases eventOf event unit <;> cases recipeOf given recipe <;> try rfl
    dsimp only
    rw [unstated_withLink hl]
    rfl
  · simp only [eventOf_eq, recipeOf_eq]
    cases ident? 8 ch with
    | none => rfl
    | some c =>
      cases ident? 4 slot with
      | none => rfl
      | some n =>
        cases eventKind event unit <;> cases recipeNamed given recipe <;> try rfl
        dsimp only
        rw [setTo_clamped]
        rfl

/-- Settles O46: the byte fields read as the statement reads them, and one slot of the record replaced. -/
theorem slotsAreSetRearmedAndHeldOff : Obligations.SlotsAreSetRearmedAndHeldOff := by
  refine ⟨exec_setTrigger, fun s tag ch slot hr => ?_, fun s c n => ?_⟩
  · refine (exec_onSlot (fun c n l _ => ?link) hr rfl rfl rfl).trans (congrArg Host.Outcome.next ?_)
    case link => exact ite_relinked rfl rfl
    · cases ident? 8 ch <;> cases ident? 4 slot <;> try rfl
      dsimp only
      rw [apply_ite (s.reply _)]
      refine if_congr Iff.rfl rfl ?_
      simp only [State.slot, modSlot_eq, modChan_eq_putChan, chan_putChan, Table.get_set_same]
      rfl
  · refine congrArg Host.Outcome.next ?_
    cases h : ((s.chan c).slots.get n).holdoffEnd with
    | none => simp only [State.slot, h]
    | some due => simp only [State.slot, h]; rfl

end Slots

section Changes

variable {s : State}

/-! ## LNK_ATTN (R172) -/

/-- Two tables walked together: some place holds true in both. -/
theorem any_zip_iff {m n : Nat} (hmn : m ≤ n) (t : Table m Bool) (u : Table n Bool) :
    ((t.entries.zip u.entries).any fun p => p.1 && p.2) = true ↔
      ∃ k : Fin m, t.get k = true ∧ u.get (k.castLE hmn) = true := by
  rw [List.any_eq_true]
  constructor
  · rintro ⟨p, hp, hboth⟩
    obtain ⟨k, hk, rfl⟩ := List.mem_iff_getElem.1 hp
    rw [List.getElem_zip, Bool.and_eq_true] at hboth
    have hkm : k < m := by
      rw [List.length_zip, t.size] at hk
      omega
    exact ⟨⟨k, hkm⟩, hboth⟩
  · rintro ⟨k, ht, hu⟩
    have hk : k.val < (t.entries.zip u.entries).length := by
      rw [List.length_zip, t.size, u.size]
      omega
    refine ⟨_, List.getElem_mem hk, ?_⟩
    rw [List.getElem_zip, Bool.and_eq_true]
    exact ⟨ht, hu⟩

theorem attnChannels_iff : attnChannels s = true ↔ ∃ c : Channel, s.mask.channels.get c = true ∧
    ∃ k : Fin 12, (s.chan c).flags.get k = true ∧ s.mask.enables.get (k.castLE (by decide)) = true := by
  rw [attnChannels, List.any_eq_true]
  simp only [List.mem_finRange, true_and, Bool.and_eq_true (s.mask.channels.get _)]
  exact exists_congr fun c => and_congr_right fun _ => any_zip_iff (by decide) (s.chan c).flags s.mask.enables

theorem attnDrives_iff : attnDrives s = true ↔ ∃ d : DriveNo, s.mask.drives.get d = true ∧
    ((s.drive d).driveFlag = true ∧ s.mask.enables.get 12 = true ∨
      (s.drive d).serverEjectFlag = true ∧ s.mask.enables.get 13 = true) := by
  simp [attnDrives, -Bool.exists_bool]

theorem wantsPosted_iff : s.wantsPosted = true ↔ ∃ w ∈ s.wants, w.taken = false := by
  simp [State.wantsPosted]

theorem spillsWaiting_iff : s.spillsWaiting = true ↔ s.spillQueue ≠ [] := by
  simp [State.spillsWaiting]

/-- LNK_ATTN, kind by kind. -/
theorem attn_iff : s.attn = true ↔
    (∃ c : Channel, s.mask.channels.get c = true ∧
      ∃ k : Fin 12, (s.chan c).flags.get k = true ∧ s.mask.enables.get (k.castLE (by decide)) = true) ∨
    (∃ d : DriveNo, s.mask.drives.get d = true ∧
      ((s.drive d).driveFlag = true ∧ s.mask.enables.get 12 = true ∨
        (s.drive d).serverEjectFlag = true ∧ s.mask.enables.get 13 = true)) ∨
    s.restarted = true ∧ s.mask.enables.get 14 = true ∨
    (∃ w ∈ s.wants, w.taken = false) ∧ s.mask.enables.get 15 = true ∨
    s.spillQueue ≠ [] ∧ s.mask.enables.get 16 = true := by
  simp only [State.attn, Bool.or_eq_true, Bool.and_eq_true, attnChannels_iff, attnDrives_iff, wantsPosted_iff,
    spillsWaiting_iff, or_assoc]

/-! ## Read Changes and Set Notice Mask (R172, R173) -/

theorem hostReadChanges_eq : hostReadChanges s = done (clearFlags s)
    (((List.finRange 8).flatMap fun c => (List.finRange 12).flatMap fun k => putFlag ((s.chan c).flags.get k)) ++
      ((List.finRange 4).flatMap fun d => putFlag (s.drive d).driveFlag ++ putFlag (s.drive d).serverEjectFlag) ++
      putFlag s.restarted ++ putFlag s.wantsPosted ++ putFlag s.spillsWaiting ++ putFlag (clearFlags s).attn) := by
  unfold hostReadChanges
  simp only [entries_eq_map_get, List.flatMap_map]
  rfl

/-- Two-valued fields are accepted where none is above 1. -/
theorem flags?_eq (l : List Byte) : flags? l =
    if l.all fun b => decide (b = 0 ∨ b = 1) then some (l.map fun b => decide (b = 1)) else none := by
  induction l with
  | nil => rfl
  | cons b l ih =>
    rw [flags?, ih, List.all_cons, List.map_cons]
    cases l.all fun b => decide (b = 0 ∨ b = 1) <;> by_cases h0 : b = 0 <;> by_cases h1 : b = 1 <;> simp_all [flag?]

/-- The enables and selects that twenty-nine fields spell. -/
def NoticeMask.spelled (fields : Table 29 Byte) : NoticeMask :=
  let on (k : Nat) : Bool := decide (fields.entries.getD k 0 = 1)
  ⟨⟨(List.range 17).map on, by simp⟩, ⟨(List.range 8).map fun k => on (17 + k), by simp⟩,
    ⟨(List.range 4).map fun k => on (25 + k), by simp⟩⟩

theorem maskOf_eq (fields : Table 29 Byte) : maskOf (fields.entries.map fun b => decide (b = 1)) = .spelled fields := by
  have hget (k : Nat) : (fields.entries.map fun b => decide (b = 1)).getD k false = decide (fields.entries.getD k 0 = 1) := by
    rw [show false = decide ((0 : Byte) = 1) from rfl, List.getD_map]
  have hdrop (m k : Nat) : ((fields.entries.map fun b => decide (b = 1)).drop m).getD k false =
      decide (fields.entries.getD (m + k) 0 = 1) := by
    rw [← hget, List.getD_eq_getElem?_getD, List.getD_eq_getElem?_getD, List.getElem?_drop]
  simp only [maskOf, tableOf, hget, hdrop, NoticeMask.spelled]

theorem bytes_spelled {fields : Table 29 Byte} (h : (fields.entries.all fun b => decide (b = 0 ∨ b = 1)) = true) :
    (NoticeMask.spelled fields).bytes = fields.entries := by
  have hall : (NoticeMask.spelled fields).enables.entries ++ (NoticeMask.spelled fields).channels.entries ++
      (NoticeMask.spelled fields).drives.entries =
        (List.range 29).map fun k => decide (fields.entries.getD k 0 = 1) := by
    have hrange : List.range 29 = List.range 17 ++ (List.range 8).map (17 + ·) ++ (List.range 4).map (25 + ·) := by decide
    rw [hrange, List.map_append, List.map_append, List.map_map, List.map_map]
    rfl
  have hbyte {k : Nat} (hk : k < fields.entries.length) :
      (if decide (fields.entries[k] = 1) then (1 : Byte) else 0) = fields.entries[k] := by
    have h01 := of_decide_eq_true (List.all_eq_true.1 h _ (List.getElem_mem hk))
    rcases h01 with h0 | h1
    · rw [h0]
      rfl
    · rw [h1]
      rfl
  rw [NoticeMask.bytes, hall, List.flatMap_map]
  change (List.range 29).flatMap (fun k => [if decide (fields.entries.getD k 0 = 1) then (1 : Byte) else 0]) = _
  rw [← List.map_eq_flatMap]
  refine List.ext_getElem (by simp [fields.size]) fun k hk hk' => ?_
  rw [List.getElem_map, List.getElem_range, List.getD_eq_getElem _ _ hk', hbyte hk']

/-- Settles O48: LNK_ATTN kind by kind, and the twenty-nine fields read in their order. -/
theorem changesAreReadOnceAndMasked : Obligations.ChangesAreReadOnceAndMasked := by
  refine ⟨fun s tag hr => ?_, fun s tag fields hr => ?_, fun s => attn_iff⟩
  · refine (exec_reply (fun l _ => rfl) hr rfl rfl rfl).trans (congrArg Host.Outcome.next ?_)
    rw [hostReadChanges_eq]
    rfl
  · refine (exec_reply (fun l _ => ?link) hr rfl ?_ rfl).trans (congrArg Host.Outcome.next ?_)
    case link =>
      unfold hostSetNoticeMask
      cases flags? fields.entries <;> rfl
    · simp only [fitsFrame, fields.size]
      decide
    · unfold hostSetNoticeMask
      rw [flags?_eq]
      by_cases h : (fields.entries.all fun b => decide (b = 0 ∨ b = 1)) = true
      · rw [if_pos h]
        dsimp only
        rw [if_pos h, maskOf_eq, bytes_spelled h]
        rfl
      · rw [if_neg h]
        dsimp only
        rw [if_neg h]
        rfl

end Changes

end Sys2Proof.Machine

/-! # Waits that end, drives and ports (R101 to R113, R121, R134, R136) -/

namespace Sys2Proof.Machine

section Waits

variable {s : State} {c : Channel}

/-! ## Deadlines of waits -/

/-- A wait that ends at its deadline: the channel leaves every list, and its request completes or is held. -/
theorem expireWait_eq (t : Nat) : expireWait c t s =
    let a := s.at t
    let b := { a with
      wants := a.wants.map fun (w : Want) => ({ w with waiters := w.waiters.filter (fun x => decide (x ≠ c)) } : Want)
      entryWaiters := a.entryWaiters.filter fun w => decide (w.channel ≠ c)
      pageWaiters := a.pageWaiters.filter fun w => decide (w.channel ≠ c)
      drives := a.drives.map fun (d : Drive) =>
        ({ d with dirtyWaiters := d.dirtyWaiters.filter (fun w => decide (w.channel ≠ c)) } : Drive) }
    b.putChan c { a.chan c with port := (a.chan c).port.endRequest a.uptime .notReadyRetry } := rfl

/-- A request that ends: a held completion stands, and another is held while the port is SUSPENDED. -/
theorem endRequest_port (p : Port) (time : Quad) (st : Completion) : p.endRequest time st =
    (match p.request with
    | none => p
    | some r => match r.wait with
      | some (.held _) => p
      | _ => if p.state = .suspended then { p with request := some { r with wait := some (.held st) } }
        else { p with request := none, last := some ⟨st, r.done, time⟩ }) := by
  unfold Port.endRequest Port.complete
  obtain ⟨presence, vbusRaw, vbus, vbusSince, state, lock, wake, request, handed, last⟩ := p
  cases request with
  | none => rfl
  | some r =>
    obtain ⟨kind, lba, count, done, data, wait⟩ := r
    cases wait with
    | none => rfl
    | some w => cases w <;> rfl

/-- Settles O37: all five deadlines end the wait by one operation. -/
theorem waitsEndAtTheirDeadlines : Obligations.WaitsEndAtTheirDeadlines := by
  intro s c
  dsimp only
  have hexpires (t : Nat) := expireWait_eq (s := s) (c := c) t
  simp only [endRequest_port] at hexpires
  refine ⟨congrArg Host.Outcome.next ?_, congrArg Host.Outcome.next ?_, congrArg Host.Outcome.next ?_,
    congrArg Host.Outcome.next ?_, congrArg Host.Outcome.next ?_⟩
  · cases (s.request c).bind (·.wait) with
    | none => rfl
    | some w =>
      cases w with
      | spills _ t => exact hexpires t
      | _ => rfl
  · cases (s.request c).bind (·.wait) with
    | none => rfl
    | some w =>
      cases w with
      | want _ _ t => exact hexpires t
      | _ => rfl
  · cases s.entryWaiters.find? (fun w => decide (w.channel = c)) with
    | none => rfl
    | some w => exact hexpires _
  · cases s.pageWaiters.find? (fun w => decide (w.channel = c)) with
    | none => rfl
    | some w => exact hexpires _
  · unfold State.dirtyWaiter
    cases s.boundDrive c with
    | none => rfl
    | some d =>
      dsimp only [Option.bind_some]
      cases (s.drive d).dirtyWaiters.find? (fun w => decide (w.channel = c)) with
      | none => rfl
      | some w => exact hexpires _

end Waits

section DriveRequests

variable {s : State} {i : Instr} {f : RequestFrame} {drive b : Byte}

/-! ## A request that names a drive -/

/-- A request that names a drive: BAD_VALUE, or what its rule does to that drive. -/
theorem exec_onDrive {g : DriveNo → Handler} (hg : ∀ d, SameLinked (g d) s)
    (hr : s.ready = true) (hf : i.request? = some f) (hfit : fitsFrame f.body.length = true)
    (hx : exec i s = .next (takeRequest i (onDrive drive g) s)) :
    exec i s = .next (match ident? 4 drive with
      | some d => s.reply i (g d s)
      | none => s.answered i s .badValue []) := by
  rw [exec_reply (onDrive_sameLinked hg) hr hf hfit hx]
  cases hd : ident? 4 drive with
  | none => rw [onDrive_none hd]; rfl
  | some d => rw [onDrive_some hd]

/-- A request that names a drive and carries a two-valued field. -/
theorem exec_onDriveFlag {g : DriveNo → Bool → Handler} (hg : ∀ d v, SameLinked (g d v) s)
    (hr : s.ready = true) (hf : i.request? = some f) (hfit : fitsFrame f.body.length = true)
    (hx : exec i s = .next (takeRequest i (onDrive drive fun d => onFlag b (g d)) s)) :
    exec i s = .next (match ident? 4 drive, flag? b with
      | some d, some v => s.reply i (g d v s)
      | _, _ => s.answered i s .badValue []) := by
  rw [exec_onDrive (fun d => onFlag_sameLinked (hg d)) hr hf hfit hx]
  cases ident? 4 drive with
  | none => rfl
  | some d =>
    cases hv : flag? b with
    | none => dsimp only; rw [onFlag_none hv]; rfl
    | some v => dsimp only; rw [onFlag_some hv]

/-- A request that names a drive and a channel. -/
theorem exec_onDriveChannel {g : DriveNo → Channel → Handler} (hg : ∀ d c, SameLinked (g d c) s)
    (hr : s.ready = true) (hf : i.request? = some f) (hfit : fitsFrame f.body.length = true)
    (hx : exec i s = .next (takeRequest i (onDrive drive fun d => onChannel b (g d)) s)) :
    exec i s = .next (match ident? 4 drive, ident? 8 b with
      | some d, some c => s.reply i (g d c s)
      | _, _ => s.answered i s .badValue []) := by
  rw [exec_onDrive (fun d => onChannel_sameLinked (hg d)) hr hf hfit hx]
  cases ident? 4 drive with
  | none => rfl
  | some d =>
    cases hc : ident? 8 b with
    | none => dsimp only; rw [onChannel_none hc]; rfl
    | some c => dsimp only; rw [onChannel_some hc]

end DriveRequests

section Media

variable {s : State} {c : Channel} {d : DriveNo}

/-! ## Load and Unload (R101, R104) -/

theorem modDrive_freeDrive (g : Drive → Drive) : modDrive d g (freeDrive d s) =
    { s.putDriveRecord d (g { s.drive d with map := [] }) with cleanList := s.cleanList.filter fun p => p.drive ≠ d } :=
  modDrive_modDrive _ d g _

theorem loadDescriptor_eq (k : Descriptor) : loadDescriptor d k s =
    { s.putDriveRecord d { s.drive d with descriptor := some k, state := .idle, map := [], driveFlag := true } with
      cleanList := s.cleanList.filter fun p => p.drive ≠ d } := by
  unfold loadDescriptor raiseDrive
  dsimp only
  rw [modDrive_modDrive, modDrive_freeDrive]

theorem unloadDescriptor_eq : unloadDescriptor d s =
    { s.putDriveRecord d { s.drive d with descriptor := none, state := .empty, map := [], driveFlag := true } with
      cleanList := s.cleanList.filter fun p => p.drive ≠ d } := by
  unfold unloadDescriptor raiseDrive
  dsimp only
  rw [modDrive_modDrive, modDrive_freeDrive]

/-- The drive's state in a reply, where the drive's record was just replaced. -/
theorem putDrive_of_record {t : State} {x : Drive} (h : t.drives = s.drives.set d x) : t.putDrive d = put1 x.state.code := by
  rw [State.putDrive, State.drive, h, Table.get_set_same]

/-- Settles O29: the pages freed and the descriptor replaced come to one drive record. -/
theorem drivesAreLoadedAndUnloaded : Obligations.DrivesAreLoadedAndUnloaded := by
  refine ⟨fun s tag drive r hr => ?_, fun s tag drive hr => ?_⟩
  · refine (exec_onDriveFlag (fun d wp l _ => ?link) hr rfl rfl rfl).trans (congrArg Host.Outcome.next ?_)
    case link => exact ite_relinked rfl (ite_relinked rfl rfl)
    cases ident? 4 drive <;> cases flag? r.writeProtect <;> try rfl
    dsimp only
    rw [apply_ite (s.reply _), apply_ite (s.reply _)]
    refine if_congr Iff.rfl rfl (if_congr Iff.rfl rfl ?_)
    rw [loadDescriptor_eq, putDrive_of_record rfl]
    simp only [State.reply, done, Descriptor.bytes, Descriptor.geometry, List.append_assoc]
    rfl
  · refine (exec_onDrive (fun d l _ => ?link) hr rfl rfl rfl).trans (congrArg Host.Outcome.next ?_)
    case link => exact ite_relinked rfl rfl
    cases ident? 4 drive <;> try rfl
    dsimp only
    rw [apply_ite (s.reply _)]
    refine if_congr Iff.rfl rfl ?_
    rw [unloadDescriptor_eq, putDrive_of_record rfl]
    rfl

/-! ## Insert (R105) -/

theorem enterConfigured_putChan (x : ChannelState) : enterConfigured c (s.putChan c x) =
    s.putChan c (({ x with port := { x.port with state := .configured }.giveHeld s.uptime } : ChannelState).flag .port) := by
  unfold enterConfigured setPortState modPort
  dsimp only
  rw [modChan_putChan, raise_putChan, modChan_putChan]
  rfl

theorem wakePort_putChan (x : ChannelState) : wakePort c (s.putChan c x) =
    if x.port.state = .suspended ∧ x.port.remoteWake = true then
      s.putChan c (({ x with port := { x.port with state := .configured }.giveHeld s.uptime } : ChannelState).flag .port)
    else s.putChan c x := by
  unfold wakePort
  rw [enterConfigured_putChan, chan_putChan]

theorem insertDrive_eq : insertDrive d c s = insertedOf d c s := by
  have hdrive : (raiseDrive d (modDrive d (fun x =>
      { x with state := .inserted, bound := some c, changeOwed := true, ejectRequested := false }) s)) =
        s.putDriveRecord d { s.drive d with
          state := .inserted, bound := some c, changeOwed := true, ejectRequested := false, driveFlag := true } :=
    modDrive_modDrive s d _ _
  calc insertDrive d c s
    _ = wakePort c (((raiseDrive d (modDrive d (fun x =>
          { x with state := .inserted, bound := some c, changeOwed := true, ejectRequested := false }) s))).putChan c
            ((s.chan c).mark s.uptime .mediaIn d.val)) := rfl
    _ = insertedOf d c s := by
      rw [hdrive, wakePort_putChan]
      rfl

theorem drive_insertedOf : ((insertedOf d c s).drive d).state = .inserted := by
  unfold insertedOf
  dsimp only
  split <;> simp

/-- Settles O30: the insert as one drive record and one channel record, behind its two refusals. -/
theorem anInsertBindsAnIdleDrive : Obligations.AnInsertBindsAnIdleDrive := by
  refine ⟨fun s tag drive ch hr => ?_, fun s c r d => ?_⟩
  · refine (exec_onDriveChannel (fun d c l _ => ?link) hr rfl rfl rfl).trans (congrArg Host.Outcome.next ?_)
    case link =>
      dsimp only
      rw [show insertRefusal d c (s.withLink l) = insertRefusal d c s from rfl, insertDrive_withLink]
      cases insertRefusal d c s <;> rfl
    cases ident? 4 drive <;> cases ident? 8 ch <;> try rfl
    next d c =>
      dsimp only
      rw [insertDrive_eq, State.putDrive, drive_insertedOf]
      unfold insertRefusal
      by_cases hstate : (s.drive d).state ≠ .idle
      · rw [if_pos hstate, if_pos hstate]
        rfl
      · rw [if_neg hstate, if_neg hstate]
        cases (s.boundDrive c).isSome <;> rfl
  · simp only [act, insertStep, insertDrive_eq]
    refine if_congr Iff.rfl rfl ?_
    unfold insertRefusal
    by_cases hstate : (s.drive d).state ≠ .idle
    · rw [if_pos hstate, if_pos (.inl hstate)]
    · rw [if_neg hstate]
      cases hbound : (s.boundDrive c).isSome with
      | true => rw [if_pos rfl, if_pos (.inr rfl)]
      | false => rw [if_neg Bool.false_ne_true, if_neg fun h => h.elim hstate Bool.false_ne_true]

/-! ## Eject (R106) -/

theorem ejectDrive_eq (force : Bool) (why : OutReason) : ejectDrive d force why s = ejectedOf d force why s := by
  unfold ejectDrive ejectedOf State.lockOf raiseDrive
  dsimp only
  rw [modDrive_modDrive]
  cases (s.drive d).state <;> rfl

/-- Settles O31: the eject by drive state, removal lock and force. -/
theorem anEjectActsByStateLockAndForce : Obligations.AnEjectActsByStateLockAndForce := by
  refine ⟨fun s tag drive force hr => ?_, fun s c r d f => ?_⟩
  · refine (exec_onDriveFlag (fun d f l _ => ?link) hr rfl rfl rfl).trans (congrArg Host.Outcome.next ?_)
    case link =>
      rw [ejectDrive_withLink]
      cases ejectDrive d f .host s <;> rfl
    cases ident? 4 drive <;> cases flag? force <;> try rfl
    next d f =>
      simp only [ejectDrive_eq]
      cases ejectedOf d f .host s <;> rfl
  · simp only [act, ejectStep, ejectDrive_eq]
    by_cases hbound : (s.drive d).bound = some c
    · rw [if_pos hbound, if_neg (not_not_intro hbound)]
      cases ejectedOf d f .recipe s <;> rfl
    · rw [if_neg hbound, if_pos hbound]

end Media

section Ports

variable {s : State} {c : Channel} (x : ChannelState)

/-! ## The port's moves (R111 to R113) -/

theorem setPortState_putChan (v : PortState) : setPortState c v (s.putChan c x) =
    s.putChan c (({ x with port := { x.port with state := v } } : ChannelState).flag .port) := by
  unfold setPortState modPort
  dsimp only
  rw [modChan_putChan, raise_putChan]

theorem setPortState_eq (v : PortState) : setPortState c v s = s.putChan c
    (({ s.chan c with port := { (s.chan c).port with state := v } } : ChannelState).flag .port) := by
  have h := setPortState_putChan (s := s) (c := c) (s.chan c) v
  rwa [putChan_chan] at h

theorem leaveBus_setPortState (v : PortState) : leaveBus c (setPortState c v s) = leftBus c v s := by
  have hcleared : modPort c (fun p => { p with request := none, removalLock := false, remoteWake := false })
      (withdraw c (setPortState c v s)) = (withdraw c s).putChan c
        (({ s.chan c with port := { (s.chan c).port with
          state := v, request := none, removalLock := false, remoteWake := false } } : ChannelState).flag .port) := by
    rw [setPortState_eq]
    exact modChan_putChan (s := withdraw c s) _ _
  unfold leaveBus
  rw [hcleared]
  rfl

theorem onBus_iff (v : PortState) : v.onBus = true ↔ v ≠ .off ∧ v ≠ .noVbus := by
  cases v <;> simp [PortState.onBus]

/-- A port on the bus leaves it. -/
theorem dropBus_onBus {v : PortState} (h : (s.chan c).port.state.onBus = true) : dropBus c v s = leftBus c v s := by
  unfold dropBus
  rw [if_pos h]
  exact leaveBus_setPortState v

/-- A port off the bus only changes its state. -/
theorem dropBus_offBus {v : PortState} (h : (s.chan c).port.state.onBus ≠ true) : dropBus c v s = setPortState c v s :=
  if_neg h

theorem enterConfigured_eq : enterConfigured c s = s.putChan c (({ s.chan c with
    port := { (s.chan c).port with state := .configured }.giveHeld s.uptime } : ChannelState).flag .port) := by
  have h := enterConfigured_putChan (s := s) (c := c) (s.chan c)
  rwa [putChan_chan] at h

/-- A port made CONFIGURED, its held completion given. -/
theorem giveHeld_configured (p : Port) (time : Quad) : { p with state := .configured }.giveHeld time =
    (match p.request with
    | some r => match r.wait with
      | some (.held st) => { p with state := .configured, request := none, last := some ⟨st, r.done, time⟩ }
      | _ => { p with state := .configured }
    | none => { p with state := .configured }) := by
  unfold Port.giveHeld
  cases p.request with
  | none => rfl
  | some r =>
    obtain ⟨kind, lba, count, done, data, wait⟩ := r
    cases wait with
    | none => rfl
    | some w => cases w <;> rfl

/-- The presence setting, as one record but for leaving the bus. -/
theorem setPresence_eq (on : Bool) : setPresence c on s =
    let x := s.chan c
    let y := { x with port := { x.port with presence := on } }
    let t := s.putChan c y
    if on then
      if x.port.state = .off then
        s.putChan c (({ y with port := { y.port with
          state := if x.port.vbus then .attached else .noVbus } } : ChannelState).flag .port)
      else t
    else if x.port.state = .off then t
    else if x.port.state = .noVbus then
      s.putChan c (({ y with port := { y.port with state := .off } } : ChannelState).flag .port)
    else leftBus c .off t := by
  have hmod : modPort c (fun p => { p with presence := on }) s =
    s.putChan c { s.chan c with port := { (s.chan c).port with presence := on } } := rfl
  unfold setPresence
  rw [hmod]
  refine if_congr Iff.rfl (if_congr Iff.rfl (setPortState_putChan _ _) rfl) ?_
  by_cases hoff : (s.chan c).port.state = .off
  · rw [if_pos hoff, if_pos hoff]
  · rw [if_neg hoff, if_neg hoff]
    have hport : ((s.putChan c { s.chan c with port := { (s.chan c).port with presence := on } }).chan c).port.state =
        (s.chan c).port.state := congrArg (fun x => x.port.state) (chan_putChan s c _)
    by_cases hno : (s.chan c).port.state = .noVbus
    · rw [if_pos hno, dropBus_offBus (hport ▸ fun h => ((onBus_iff _).1 h).2 hno), setPortState_putChan]
    · rw [if_neg hno]
      exact dropBus_onBus (hport ▸ (onBus_iff _).2 ⟨hoff, hno⟩)

theorem reflagEject_withLink {l : Link} : reflagEject c (s.withLink l) = (reflagEject c s).withLink l := by
  unfold reflagEject
  rw [boundDrive_withLink]
  cases s.boundDrive c <;> rfl

theorem dropBus_withLink (s : State) {l : Link} (v : PortState) : dropBus c v (s.withLink l) = (dropBus c v s).withLink l :=
  ite_withLink (reflagEject_withLink (s := modPort c (fun p => { p with
    request := none, removalLock := false, remoteWake := false }) (withdraw c (setPortState c v s)))) rfl

theorem setPresence_withLink {l : Link} (on : Bool) : setPresence c on (s.withLink l) = (setPresence c on s).withLink l :=
  ite_withLink (ite_withLink rfl rfl) (ite_withLink rfl (dropBus_withLink (modPort c (fun p => { p with presence := on }) s) _))

/-- A qualified change of VBUS, on the record it was just written to. -/
theorem actOnVbus_putChan (x : ChannelState) : actOnVbus c (s.putChan c x) =
    (match x.port.vbus, x.port.state with
    | true, .noVbus => s.putChan c (({ x with port := { x.port with state := .attached } } : ChannelState).flag .port)
    | false, .attached | false, .configured | false, .suspended => leftBus c .noVbus (s.putChan c x)
    | _, _ => s.putChan c x) := by
  obtain ⟨_, _, _, _, _, _, _, ⟨presence, raw, vbus, since, state, lock, wake, request, handed, last⟩, _, _, _⟩ := x
  unfold actOnVbus
  rw [chan_putChan]
  dsimp only
  cases vbus with
  | true =>
    rw [if_pos rfl, setPortState_putChan]
    cases state <;> rfl
  | false =>
    rw [if_neg Bool.false_ne_true]
    by_cases hon : state.onBus = true
    · rw [if_pos hon, dropBus_onBus (by rw [chan_putChan]; exact hon)]
      cases state with
      | off | noVbus => exact absurd hon Bool.false_ne_true
      | attached | configured | suspended => rfl
    · rw [if_neg hon]
      cases state with
      | off | noVbus => rfl
      | attached | configured | suspended => exact absurd rfl hon

theorem leavesBus {v : PortState} (h : (s.chan c).port.state = .configured ∨ (s.chan c).port.state = .suspended) :
    dropBus c v s = leftBus c v s := by
  refine dropBus_onBus ?_
  rcases h with h | h <;> rw [h] <;> rfl

theorem execBusReset_eq : execBusReset c s = .next (
    if (s.chan c).port.state = .attached then
      s.putChan c { s.chan c with port := { (s.chan c).port with remoteWake := false } }
    else if (s.chan c).port.state = .configured ∨ (s.chan c).port.state = .suspended then leftBus c .attached s
    else s) := by
  unfold execBusReset
  split
  next h => rw [if_pos h]; rfl
  next h => rw [if_neg (by simp [h]), if_pos (.inl h), leavesBus (.inl h)]
  next h => rw [if_neg (by simp [h]), if_pos (.inr h), leavesBus (.inr h)]
  next hattached hconfigured hsuspended => rw [if_neg hattached, if_neg fun h => h.elim hconfigured hsuspended]

/-- Settles O33: every move writes one record, and leaving the bus is one operation. -/
theorem portsMoveByPresenceVbusAndBus : Obligations.PortsMoveByPresenceVbusAndBus := by
  refine ⟨fun s tag ch presence hr => ?_, fun s c => congrArg Host.Outcome.next ?_, fun s c on => ?_⟩
  · refine (exec_onChannelFlag (fun c on l _ => ?link) hr rfl rfl rfl).trans (congrArg Host.Outcome.next ?_)
    case link =>
      rw [setPresence_withLink]
      rfl
    cases ident? 8 ch <;> cases flag? presence <;> try rfl
    simp only [setPresence_eq]
    rfl
  · dsimp only
    cases (s.chan c).port.vbusSince with
    | none => rfl
    | some since =>
      have hact := actOnVbus_putChan (s := s.at (since + 10 * 256000)) (c := c) { s.chan c with
        port := { (s.chan c).port with vbus := (s.chan c).port.vbusRaw, vbusSince := none } }
      dsimp only at hact
      refine hact.trans ?_
      cases (s.chan c).port.vbusRaw <;> cases (s.chan c).port.state <;> rfl
  · dsimp only
    have hconfigured := enterConfigured_eq.trans (congrArg (fun p => s.putChan c (({ s.chan c with
      port := p } : ChannelState).flag .port)) (giveHeld_configured (s.chan c).port s.uptime))
    refine ⟨execBusReset_eq, congrArg Host.Outcome.next (if_congr Iff.rfl ?_ rfl), congrArg Host.Outcome.next ?_,
      congrArg Host.Outcome.next (if_congr Iff.rfl (setPortState_eq _) rfl),
      congrArg Host.Outcome.next (if_congr Iff.rfl ?_ rfl), rfl⟩
    · exact hconfigured
    · by_cases h : (s.chan c).port.state = .configured
      · rw [if_pos h, if_pos h, leavesBus (.inl h)]
      · rw [if_neg h, if_neg h]
    · exact hconfigured

end Ports

end Sys2Proof.Machine

/-! # The waiting lists while a request is carried on (R97, R134, R136) -/

namespace Sys2Proof.Machine

/-- From `s` to `t` no request has joined or left the page waiters, the want-entry waiters or a drive's dirty
waiters. -/
structure SameWaiters (s t : State) : Prop where
  pages : t.pageWaiters = s.pageWaiters
  entries : t.entryWaiters = s.entryWaiters
  dirty : ∀ d, (t.drive d).dirtyWaiters = (s.drive d).dirtyWaiters

/-- From `s` to `t` a request has joined a list only where what it lacks is still lacking in `t`. -/
structure JoinsLacking (s t : State) : Prop where
  pages : t.pageWaiters = s.pageWaiters ∨ t.poolCheck = false
  entries : t.entryWaiters = s.entryWaiters ∨ ¬ t.wants.length < 32
  dirty : ∀ d, (t.drive d).dirtyWaiters = (s.drive d).dirtyWaiters ∨ t.hasRoom d = false

namespace SameWaiters

variable {s t u : State} {c : Channel} {d : DriveNo} {i : Nat}

theorem refl (s : State) : SameWaiters s s := ⟨rfl, rfl, fun _ => rfl⟩

theorem trans (h : SameWaiters s t) (h' : SameWaiters t u) : SameWaiters s u :=
  ⟨h'.pages.trans h.pages, h'.entries.trans h.entries, fun d => (h'.dirty d).trans (h.dirty d)⟩

theorem joins (h : SameWaiters s t) : JoinsLacking s t := ⟨.inl h.pages, .inl h.entries, fun d => .inl (h.dirty d)⟩

theorem thenJoins (h : SameWaiters s t) (h' : JoinsLacking t u) : JoinsLacking s u :=
  ⟨h.pages ▸ h'.pages, h.entries ▸ h'.entries, fun d => h.dirty d ▸ h'.dirty d⟩

theorem ofDrives (hp : t.pageWaiters = s.pageWaiters := by rfl) (he : t.entryWaiters = s.entryWaiters := by rfl)
    (hd : t.drives = s.drives := by rfl) : SameWaiters s t := ⟨hp, he, fun d => by rw [State.drive, hd, State.drive]⟩

/-- One drive's map is all that differs. -/
theorem ofMap {m : Drive → List CachePage} (hd : t.drives = (modDrive d (fun x => { x with map := m x }) s).drives)
    (hp : t.pageWaiters = s.pageWaiters := by rfl) (he : t.entryWaiters = s.entryWaiters := by rfl) : SameWaiters s t :=
  ⟨hp, he, fun e => by
    rw [drive_of_drives hd]
    split
    next h => rw [h]
    · rfl⟩

/-- One page is put into a map. -/
theorem ofPut {p : CachePage} (hd : t.drives = (putPage d p s).drives) (hp : t.pageWaiters = s.pageWaiters := by rfl)
    (he : t.entryWaiters = s.entryWaiters := by rfl) : SameWaiters s t :=
  ofMap (d := d) (m := fun x => mapPut p x.map) hd hp he

theorem takePage : SameWaiters s (takePage s) :=
  ⟨by rw [takePage_eq], by rw [takePage_eq], fun d => by
    obtain ⟨m, hm, -⟩ := drive_takePage s d
    rw [hm]⟩

theorem createWant (ws : List Channel) : SameWaiters s (createWant d i ws s) := by
  rw [createWant_eq]
  exact takePage.trans (ofPut (d := d) (p := ⟨i, .filling, []⟩) rfl)

theorem readahead (n : Nat) : SameWaiters s (readahead d n i s) := by
  induction n generalizing s i with
  | zero => exact .refl s
  | succ n ih =>
    unfold Machine.readahead
    split
    · exact .refl s
    · split
      · exact ih
      · split
        · exact (createWant []).trans ih
        · exact .refl s

theorem joinWant : SameWaiters s (joinWant c d i s) := by
  unfold Machine.joinWant
  split
  · exact .refl s
  · exact ofDrives

theorem writePage (k : Descriptor) (r : Request) (x : Cursor) (p : CachePage) (st : CacheState) :
    SameWaiters s (writePage c d k r x p st s) :=
  ofPut (d := d) (p := { p with state := st, data := splice (x.offset * k.blockSize) (chunk k r x) p.data }) rfl

end SameWaiters

section Joins

variable {s t : State} {c : Channel} {d : DriveNo} {i : Nat}

theorem poolCheck_modPort (f : Port → Port) : (modPort c f s).poolCheck = s.poolCheck := by
  have hunmet := unmet_modChan (s := s) (c := c) fun x => { x with port := f x.port }
  have hconsole := sumChannels_modChan s c (fun x => { x with port := f x.port }) fun x => x.store.pages.length
  simp only [Nat.add_right_cancel_iff] at hunmet hconsole
  have hunmet : (modPort c f s).unmet = s.unmet := hunmet
  have hconsole : (modPort c f s).consolePages = s.consolePages := hconsole
  have hcache : (modPort c f s).cachePages = s.cachePages := rfl
  have hclean : (modPort c f s).cleanPages = s.cleanPages := rfl
  rw [State.poolCheck, State.reclaimable, State.freePages, hunmet, hconsole, hcache, hclean]
  rfl

theorem joinsLacking_page (n : Need) (h : s.poolCheck = false) : JoinsLacking s (joinPageWaiters c d i n s) :=
  ⟨.inr ((poolCheck_modPort _).trans h), .inl rfl, fun _ => .inl rfl⟩

theorem joinsLacking_entry (h : 32 ≤ s.wants.length) : JoinsLacking s (joinEntryWaiters c d i s) :=
  ⟨.inl rfl, .inr (not_lt.2 h), fun _ => .inl rfl⟩

theorem joinsLacking_dirty (h : s.hasRoom d = false) : JoinsLacking s (joinDirtyWaiters c d i s) := by
  have hdrive (e : DriveNo) := drive_of_drives (s := s) (t := joinDirtyWaiters c d i s) (d := d)
    (f := fun x => { x with dirtyWaiters := x.dirtyWaiters ++
      [⟨c, d, i, s.uptime, s.deadline (s.descriptor d).fillTimeout⟩] }) rfl e
  refine ⟨.inl rfl, .inl rfl, fun e => ?_⟩
  by_cases he : e = d
  · right
    rw [he, State.hasRoom, State.descriptor, hdrive, if_pos rfl]
    exact h
  · left
    rw [hdrive, if_neg he]

theorem joinsLacking_demand : JoinsLacking s (demandWant c d i s) := by
  unfold demandWant
  split
  next h => exact joinsLacking_entry h
  · split
    next h => exact joinsLacking_page _ (by simpa using h)
    · exact (((SameWaiters.createWant [c]).trans .ofDrives).trans (.readahead _)).joins

/-- One page: the lists stand where the request goes on, and it joins one only for what it lacks. -/
theorem pageStep_waiters (r : Request) : JoinsLacking s (pageStep c d r s).1 ∧
    ((pageStep c d r s).2 = true → SameWaiters s (pageStep c d r s).1) := by
  have goesOn {t : State} (h : SameWaiters s t) : JoinsLacking s t ∧ (true = true → SameWaiters s t) := ⟨h.joins, fun _ => h⟩
  have waits {t : State} (h : JoinsLacking s t) : JoinsLacking s t ∧ (false = true → SameWaiters s t) :=
    ⟨h, fun h => absurd h Bool.false_ne_true⟩
  unfold pageStep readStep writeStep
  dsimp only
  split
  · split
    · exact waits joinsLacking_demand
    · split
      · exact waits SameWaiters.joinWant.joins
      · exact goesOn .ofDrives
      · exact goesOn .ofDrives
  · split
    · split
      · exact goesOn (.writePage ..)
      · exact goesOn (.writePage ..)
      · exact goesOn (.writePage ..)
      · exact waits SameWaiters.joinWant.joins
      · split
        next h => exact waits (joinsLacking_dirty (by simpa using h))
        · split
          next h => exact waits (joinsLacking_page _ (by simpa using h))
          · exact goesOn (.ofPut (d := d) rfl)
    · split
      · split
        next h => exact waits (joinsLacking_dirty (by simpa using h))
        · split
          next h => exact waits (joinsLacking_page _ (by simpa using h))
          · have hput (p : CachePage) : SameWaiters (takePage s) (queueSpill d (cursor (s.descriptor d) r).page (placed c
                (cursor (s.descriptor d) r) (putPage d p (takePage s)))) := .ofPut (d := d) (p := p) rfl
            exact goesOn (SameWaiters.takePage.trans (hput _))
      · exact waits joinsLacking_demand
  · exact waits (SameWaiters.refl s).joins

/-- A request carried on joins a list only for what it lacks when it stops. -/
theorem carryOn_joins (n : Nat) : JoinsLacking s (carryOn c d n s) := by
  induction n generalizing s with
  | zero => exact (SameWaiters.refl s).joins
  | succ n ih =>
    unfold carryOn
    dsimp only
    split
    · exact (SameWaiters.refl s).joins
    next r _ =>
      split
      · exact SameWaiters.joins .ofDrives
      · obtain ⟨hjoins, hsame⟩ := pageStep_waiters (s := s) (c := c) (d := d) r
        split
        next h => exact (hsame h).thenJoins ih
        · exact hjoins

theorem resumeRequest_joins : JoinsLacking s (resumeRequest c s) := by
  unfold resumeRequest
  split
  · exact SameWaiters.thenJoins .ofDrives (carryOn_joins _)
  · exact (SameWaiters.refl s).joins

/-! ## Serving the lists, without a bound on their length -/

theorem servePageWaiters_lacking (n : Nat) (h : s.poolCheck = false) : servePageWaiters n s = s := by
  cases n with
  | zero => rfl
  | succ n =>
    unfold servePageWaiters
    split
    · rfl
    · rw [if_neg (by simp [h])]

theorem servePages_eq : servePages s = (match s.pageWaiters with
    | [] => s
    | w :: rest => if s.unmet + 1 ≤ s.reclaimable then servePages (resumeRequest w.channel { s with pageWaiters := rest })
      else s) := by
  unfold servePages
  cases h : s.pageWaiters with
  | nil => rfl
  | cons w rest =>
    rw [List.length_cons, servePageWaiters, h]
    refine if_congr (by simp [State.poolCheck]) ?_ rfl
    rcases (resumeRequest_joins (s := { s with pageWaiters := rest }) (c := w.channel)).pages with hsame | hlacks
    · rw [hsame]
    · rw [servePageWaiters_lacking _ hlacks, servePageWaiters_lacking _ hlacks]

theorem serveEntryWaiters_lacking (n : Nat) (h : ¬ s.wants.length < 32) : serveEntryWaiters n s = s := by
  cases n with
  | zero => rfl
  | succ n =>
    unfold serveEntryWaiters
    split
    · rfl
    · exact if_neg h

theorem serveEntries_eq : serveEntries s = (match s.entryWaiters with
    | [] => s
    | w :: rest => if s.wants.length < 32 then serveEntries (resumeRequest w.channel { s with entryWaiters := rest })
      else s) := by
  unfold serveEntries
  cases h : s.entryWaiters with
  | nil => rfl
  | cons w rest =>
    rw [List.length_cons, serveEntryWaiters, h]
    refine if_congr Iff.rfl ?_ rfl
    rcases (resumeRequest_joins (s := { s with entryWaiters := rest }) (c := w.channel)).entries with hsame | hlacks
    · rw [hsame]
    · rw [serveEntryWaiters_lacking _ hlacks, serveEntryWaiters_lacking _ hlacks]

theorem serveDirtyWaiters_lacking (n : Nat) (h : s.hasRoom d = false) : serveDirtyWaiters d n s = s := by
  cases n with
  | zero => rfl
  | succ n =>
    unfold serveDirtyWaiters
    split
    · rfl
    · rw [if_neg (by simp [h])]

theorem serveDirty_eq : serveDirty d s = (match (s.drive d).dirtyWaiters with
    | [] => s
    | w :: rest => if (s.drive d).dirtyCount < (s.descriptor d).dirtyLimit then
        serveDirty d (resumeRequest w.channel (s.putDriveRecord d { s.drive d with dirtyWaiters := rest }))
      else s) := by
  unfold serveDirty
  cases h : (s.drive d).dirtyWaiters with
  | nil => rfl
  | cons w rest =>
    rw [List.length_cons, serveDirtyWaiters, h]
    refine if_congr (by simp [State.hasRoom]) ?_ rfl
    rw [modDrive_eq_putDriveRecord]
    rcases (resumeRequest_joins (s := s.putDriveRecord d { s.drive d with dirtyWaiters := rest })
      (c := w.channel)).dirty d with hsame | hlacks
    · rw [hsame, drive_putDriveRecord]
    · rw [serveDirtyWaiters_lacking _ hlacks, serveDirtyWaiters_lacking _ hlacks]

end Joins

end Sys2Proof.Machine

/-! # Wants taken, filled and failed, and spills taken and ended (R130 to R142) -/

namespace Sys2Proof.Machine

section Wants

variable {s : State} {c : Channel} {d : DriveNo} {w : Want}

/-! ## Take Wants (R130) -/

theorem takePosted_fst (n : Nat) (l : List Want) : (takePosted n l).1 = (l.filter fun w => !w.taken).take n := by
  fun_induction takePosted n l with
  | case1 => rw [List.take_zero]
  | case2 => rw [List.filter_nil, List.take_nil]
  | case3 n w rest h x ih => rw [List.filter_cons_of_neg (by simp [h])]; exact ih
  | case4 n w rest h x ih => rw [List.filter_cons_of_pos (by simp [h]), List.take_succ_cons]; exact congrArg _ ih

/-- Marked TAKEN where its number is among those of a list of wants. -/
def Want.marked (l : List Want) (w : Want) : Want :=
  if l.any fun v => decide (v.number = w.number) then { w with taken := true } else w

theorem marked_of_notMem {l : List Want} (h : ∀ v ∈ l, v.number ≠ w.number) : w.marked l = w := by
  have hany : (l.any fun v => decide (v.number = w.number)) = false := by simpa using h
  rw [Want.marked, hany, if_neg Bool.false_ne_true]

theorem marked_cons_ne {v : Want} {l : List Want} (h : v.number ≠ w.number) : w.marked (v :: l) = w.marked l := by
  rw [Want.marked, Want.marked, List.any_cons, decide_eq_false h, Bool.false_or]

/-- With different numbers the wants handed out are the ones marked. -/
theorem takePosted_snd (n : Nat) (l : List Want) (hn : (l.map (·.number)).Nodup) :
    (takePosted n l).2 = l.map (Want.marked ((l.filter fun w => !w.taken).take n)) := by
  fun_induction takePosted n l with
  | case1 l => exact (List.map_id'' (fun w => marked_of_notMem fun v hv => by simp at hv) l).symm
  | case2 => rfl
  | case3 n w rest h x ih =>
    obtain ⟨hw, hrest⟩ := List.nodup_cons.1 hn
    have hother (v : Want) (hv : v ∈ (rest.filter fun w => !w.taken).take (n + 1)) : v.number ≠ w.number := fun heq =>
      hw (List.mem_map.2 ⟨v, List.mem_of_mem_filter (List.mem_of_mem_take hv), heq⟩)
    rw [List.filter_cons_of_neg (by simp [h]), List.map_cons, marked_of_notMem hother]
    exact congrArg _ (ih hrest)
  | case4 n w rest h x ih =>
    obtain ⟨hw, hrest⟩ := List.nodup_cons.1 hn
    have hself : w.marked (w :: (rest.filter fun w => !w.taken).take n) = { w with taken := true } := by
      rw [Want.marked, List.any_cons, decide_eq_true rfl, Bool.true_or, if_pos rfl]
    rw [List.filter_cons_of_pos (by simp [h]), List.take_succ_cons, List.map_cons, hself]
    refine congrArg _ ((ih hrest).trans (List.map_congr_left fun v hv => (marked_cons_ne fun heq => ?_).symm))
    exact hw (List.mem_map.2 ⟨v, hv, heq.symm⟩)

theorem hostTakeWants_eq (hn : (s.wants.map (·.number)).Nodup) : hostTakeWants s =
    let taken := (s.wants.filter fun w => !w.taken).take 8
    done { s with wants := s.wants.map (Want.marked taken) }
      (put1 taken.length ++ taken.flatMap fun w => pageRecord w.number w.drive w.page w.valid (s.descriptor w.drive)) := by
  unfold hostTakeWants
  dsimp only
  rw [takePosted_fst, takePosted_snd _ _ hn]

/-! ## Fill and Fill Failed (R131 to R133) -/

theorem wantMatching_eq (n : Byte) (i : Nat) :
    s.wantMatching n d i = s.wants.find? fun w => decide (w.number = n ∧ w.drive = d ∧ w.page = i) := by
  simp only [State.wantMatching, Bool.decide_and, Bool.and_assoc]

theorem fillWant_withLink (w : Want) (data : List Byte) (l : Link) :
    fillWant w data (s.withLink l) = (fillWant w data s).withLink l := by
  unfold fillWant
  have hplaced : (s.withLink l |> putPage w.drive ⟨w.page, .clean, padPage data⟩ |> touch w.drive w.page
      |> removeWant w.number) = (s |> putPage w.drive ⟨w.page, .clean, padPage data⟩ |> touch w.drive w.page
      |> removeWant w.number).withLink l := rfl
  dsimp only at hplaced ⊢
  rw [hplaced, testDrain_withLink, servePages_withLink, serveEntries_withLink,
    foldl_withLink fun s c => resumeRequest_withLink s l c]

theorem failWant_withLink (w : Want) (st : Completion) (l : Link) :
    failWant w st (s.withLink l) = (failWant w st s).withLink l := by
  unfold failWant
  have hdropped : (s.withLink l |> dropPage w.drive w.page |> removeWant w.number) =
      (s |> dropPage w.drive w.page |> removeWant w.number).withLink l := rfl
  dsimp only at hdropped ⊢
  rw [hdropped, foldl_withLink fun s c => endRequest_withLink s l c st, testDrain_withLink, servePages_withLink,
    serveEntries_withLink]

theorem testDrain_eq : testDrain d s =
    if (s.drive d).state = .draining ∧ (s.drive d).dirtyCount = 0 ∧ ∀ w ∈ s.wants, w.drive ≠ d then
      s.putDriveRecord d { s.drive d with state := .idle, driveFlag := true }
    else s := by
  unfold testDrain
  exact if_congr (by simp) rfl rfl

theorem resumeRequest_eq : resumeRequest c s = (match s.request c, s.boundDrive c with
    | some r, some e => carryOn c e (r.count + 1) (s.waiting c none)
    | _, _ => s) := by
  unfold resumeRequest
  cases s.request c <;> cases s.boundDrive c <;> rfl

/-- Settles O38: with different numbers the wants taken are the wants marked, and a request served joins a list again
only for what it lacks, so that serving needs no bound. -/
theorem wantsAreTakenFilledAndFailed : Obligations.WantsAreTakenFilledAndFailed := by
  refine ⟨fun s tag hr hn => ?_, fun s tag want drive valid size page data hr hlen => ?_,
    fun s tag want drive reason page hr => ?_, fun s n => congrArg Host.Outcome.next ?_,
    fun s c d => ⟨servePages_eq, serveEntries_eq, resumeRequest_eq, testDrain_eq⟩⟩
  · refine (exec_reply (fun l _ => rfl) hr rfl rfl rfl).trans (congrArg Host.Outcome.next ?_)
    rw [hostTakeWants_eq hn]
    rfl
  · refine (exec_onDrive (i := .fill tag want drive page valid size data) (fun d l _ => ?link) hr rfl ?fit rfl).trans
      (congrArg Host.Outcome.next ?_)
    case link =>
      rw [show (s.withLink l).wantMatching want d page.toNat = s.wantMatching want d page.toNat from rfl]
      cases s.wantMatching want d page.toNat with
      | none => rfl
      | some w => exact ite_relinked rfl (congrArg done (fillWant_withLink w data l))
    case fit =>
      refine decide_eq_true (show _ ≤ 4160 from ?_)
      simp only [List.length_append, List.length_cons, List.length_nil, Quad.bytes, Half.bytes]
      omega
    cases ident? 4 drive <;> try rfl
    next d =>
      dsimp only
      rw [← wantMatching_eq]
      cases hw : s.wantMatching want d page.toNat with
      | none => rfl
      | some w =>
        obtain ⟨-, hnumber, hdrive, -⟩ := wantMatching_some hw
        dsimp only
        rw [apply_ite (s.reply _)]
        refine if_congr Iff.rfl rfl ?_
        subst hnumber hdrive
        rfl
  · refine (exec_onDriveFlag (fun d r l _ => ?link) hr rfl rfl rfl).trans (congrArg Host.Outcome.next ?_)
    case link =>
      rw [show (s.withLink l).wantMatching want d page.toNat = s.wantMatching want d page.toNat from rfl]
      cases s.wantMatching want d page.toNat with
      | none => rfl
      | some w => exact congrArg done (failWant_withLink w _ l)
    cases ident? 4 drive <;> cases flag? reason <;> try rfl
    next d r =>
      dsimp only
      rw [← wantMatching_eq]
      cases s.wantMatching want d page.toNat <;> rfl
  · cases s.wants.find? (fun w => decide (w.number = n)) <;> rfl

end Wants

section Spills

variable {s : State} {d : DriveNo} {i : Nat}

/-! ## The effects of a spill's end (R142) -/

theorem serveDirty_withLink (l : Link) : serveDirty d (s.withLink l) = (serveDirty d s).withLink l := by
  suffices h : ∀ n s, serveDirtyWaiters d n (s.withLink l) = (serveDirtyWaiters d n s).withLink l from h _ s
  intro n
  induction n with
  | zero => intro s; rfl
  | succ n ih =>
    intro s
    simp only [serveDirtyWaiters, drive_withLink]
    split
    · rfl
    next w rest _ =>
      have hresume := resumeRequest_withLink (modDrive d (fun x => { x with dirtyWaiters := rest }) s) l w.channel
      exact ite_withLink ((congrArg _ hresume).trans (ih _)) rfl

/-- A SYNC that waits on the drive, tested: its request is the bound channel's, waiting on spills. -/
theorem testSync_eq : testSync d s = (match (s.drive d).bound with
    | none => s
    | some c => match (s.request c).bind (·.wait) with
      | some (.spills ..) => if (s.drive d).dirtyCount = 0 then complete c .good s else s
      | _ => s) := by
  unfold testSync
  cases (s.drive d).bound with
  | none => rfl
  | some c =>
    dsimp only
    cases s.request c with
    | none => rfl
    | some r =>
      obtain ⟨kind, lba, count, done, data, wait⟩ := r
      cases wait with
      | none => rfl
      | some w => cases w <;> rfl

theorem testSync_withLink (l : Link) : testSync d (s.withLink l) = (testSync d s).withLink l := by
  rw [testSync_eq, testSync_eq, drive_withLink]
  cases (s.drive d).bound with
  | none => rfl
  | some c =>
    dsimp only
    rw [request_withLink]
    cases (s.request c).bind (·.wait) with
    | none => rfl
    | some w =>
      cases w with
      | spills => exact ite_withLink rfl rfl
      | _ => rfl

theorem afterSpill_withLink (stored : Bool) (l : Link) :
    afterSpill d stored (s.withLink l) = (afterSpill d stored s).withLink l := by
  unfold afterSpill
  cases stored
  · simp only [Bool.false_eq_true, if_false, serveDirty_withLink, testSync_withLink, testDrain_withLink]
  · simp only [if_true, servePages_withLink, serveDirty_withLink, testSync_withLink, testDrain_withLink]

/-! ## The page of a spill that ends (R140, R141) -/

theorem moveSpilled_eq (n : Byte) (retry : Bool) : moveSpilled d i retry (removeSpill n s) = movedOf n d i retry s := by
  unfold moveSpilled spillToHead spillStored movedOf
  rw [show (removeSpill n s).page d i = s.page d i from rfl]
  cases s.page d i with
  | none => cases retry <;> rfl
  | some p => cases retry <;> rfl

theorem putCache_eq (s : State) (d : DriveNo) (i : Nat) :
    s.putCache d i = match s.page d i with | some p => put1 p.state.code | none => [] := by
  unfold State.putCache
  cases s.page d i <;> rfl

theorem spillMatching_eq (n : Byte) :
    s.spillMatching n d i = s.spills.find? fun x => decide (x.number = n ∧ x.drive = d ∧ x.page = i) := by
  simp only [State.spillMatching, Bool.decide_and, Bool.and_assoc]

theorem movedOf_withLink (n : Byte) (retry : Bool) (l : Link) :
    movedOf n d i retry (s.withLink l) = (movedOf n d i retry s).withLink l := by
  unfold movedOf
  rw [page_withLink]
  cases s.page d i with
  | none => rfl
  | some p => exact ite_withLink rfl (ite_withLink rfl rfl)

theorem spillDone_sameLinked (spill : Byte) (retry : Bool) (page : Nat) : SameLinked (fun s =>
    match s.spillMatching spill d page with
    | none => answers .stale [] s
    | some x =>
      let moved := s |> removeSpill x.number |> moveSpilled d x.page retry
      done (afterSpill d (!retry && s.cleanlySpilling d x.page) moved) (moved.putCache d x.page)) s := by
  intro l _
  dsimp only
  rw [show (s.withLink l).spillMatching spill d page = s.spillMatching spill d page from rfl]
  cases s.spillMatching spill d page with
  | none => rfl
  | some x =>
    dsimp only
    rw [moveSpilled_eq, moveSpilled_eq, movedOf_withLink, afterSpill_withLink]
    rfl

/-! ## Take Spill (R139) -/

theorem hostTakeSpill_empty (hq : s.spillQueue = []) : hostTakeSpill s = answers .empty [] s := by
  unfold hostTakeSpill
  rw [hq]

theorem hostTakeSpill_noSpace {r : PageRef} {rest : List PageRef} (hq : s.spillQueue = r :: rest)
    (hfull : 8 ≤ s.spills.length) : hostTakeSpill s = answers .noSpace [] s := by
  unfold hostTakeSpill
  rw [hq]
  exact if_pos hfull

theorem hostTakeSpill_taken {r : PageRef} {rest : List PageRef} {p : CachePage} (hq : s.spillQueue = r :: rest)
    (hroom : s.spills.length < 8) (hp : s.page r.drive r.index = some p) :
    hostTakeSpill s =
      let k := s.descriptor r.drive
      let number := freeNumber (s.spills.map (·.number)) 9 s.spillCounter
      done (handSpill r rest p number s) (pageRecord number r.drive r.index (k.valid r.index) k ++
        slice 0 (k.valid r.index * k.blockSize) p.data) := by
  unfold hostTakeSpill
  rw [hq]
  dsimp only
  rw [hp]
  exact if_neg (not_le.2 hroom)

theorem takeSpill_sameLinked : SameLinked hostTakeSpill s := by
  intro l _
  unfold hostTakeSpill
  rw [show (s.withLink l).spillQueue = s.spillQueue from rfl]
  cases s.spillQueue with
  | nil => rfl
  | cons r rest => exact ite_relinked rfl rfl

/-- Settles O39: the page moved by the outcome, and the effects of R142 one after another. -/
theorem spillsAreTakenAndEnded : Obligations.SpillsAreTakenAndEnded := by
  refine ⟨fun s tag hr => ?_, fun s tag spill drive outcome page hr => ?_, fun s n => congrArg Host.Outcome.next ?_,
    fun used n fuel hused hfuel => ?_, fun s d stored => ⟨rfl, serveDirty_eq, testSync_eq⟩⟩
  · have htake : exec (.takeSpill tag) s = .next (s.reply (.takeSpill tag) (hostTakeSpill s)) :=
      exec_reply takeSpill_sameLinked hr rfl rfl rfl
    dsimp only
    cases hqueue : s.spillQueue with
    | nil => rw [htake, hostTakeSpill_empty hqueue]; rfl
    | cons r rest =>
      refine ⟨fun hfull => ?_, fun hroom p hp => ?_⟩
      · rw [htake, hostTakeSpill_noSpace hqueue hfull]
        rfl
      · rw [htake, hostTakeSpill_taken hqueue hroom hp]
        rfl
  · refine (exec_onDriveFlag (fun d retry => spillDone_sameLinked spill retry _) hr rfl rfl rfl).trans
      (congrArg Host.Outcome.next ?_)
    cases ident? 4 drive <;> cases flag? outcome <;> try rfl
    next d retry =>
      dsimp only
      rw [← spillMatching_eq]
      cases hx : s.spillMatching spill d page.toNat with
      | none => rfl
      | some x =>
        obtain ⟨-, rfl, -, -⟩ := spillMatching_some hx
        dsimp only
        rw [moveSpilled_eq]
        exact congrArg (s.answered _ (afterSpill d _ _) .ok) (putCache_eq ..)
  · cases hx : s.spills.find? (fun x => decide (x.number = n)) with
    | none => rfl
    | some x =>
      obtain rfl : x.number = n := of_decide_eq_true (List.find?_some (p := fun x : Spill => decide (x.number = n)) hx)
      exact congrArg (afterSpill x.drive false) (moveSpilled_eq (s := s.at x.deadline) x.number true)
  · exact freeNumber_first used n fuel hused hfuel

end Spills

end Sys2Proof.Machine

/-! # Recipes, steps and runs (R144 to R162) -/

namespace Sys2Proof.Machine

section Tables

variable {s : State} {i : Instr} {f : RequestFrame} {b : Byte}

/-! ## A request that names one of eight -/

theorem onEight_sameLinked {g : Fin 8 → Handler} (hg : ∀ k, SameLinked (g k) s) : SameLinked (onEight b g) s := by
  intro l hl
  unfold onEight
  cases ident? 8 b with
  | none => rfl
  | some k => exact hg k l hl

theorem exec_onEight {g : Fin 8 → Handler} (hg : ∀ k, SameLinked (g k) s)
    (hr : s.ready = true) (hf : i.request? = some f) (hfit : fitsFrame f.body.length = true)
    (hx : exec i s = .next (takeRequest i (onEight b g) s)) :
    exec i s = .next (match ident? 8 b with
      | some k => s.reply i (g k s)
      | none => s.answered i s .badValue []) := by
  rw [exec_reply (onEight_sameLinked hg) hr hf hfit hx]
  unfold onEight
  cases ident? 8 b <;> rfl

/-! ## Write Recipe and Write Key String (R144, R145) -/

theorem inUse_eq (k : RecipeNo) : s.inUse k = (List.finRange 8).any fun c => match (s.chan c).context.run with
    | none => false
    | some r => decide (r.recipe = k) || r.stack.any fun e => decide (e.recipe = k) := by
  unfold State.inUse
  rw [entries_eq_map_get, List.any_map]
  refine congrArg _ (funext fun c => ?_)
  show (match (s.chan c).context.run with | none => false | some r => r.references k) = _
  cases (s.chan c).context.run <;> rfl

/-- Settles O40: the handlers behind their checks. -/
theorem recipesAndKeyStringsAreWritten : Obligations.RecipesAndKeyStringsAreWritten := by
  refine ⟨fun s tag recipe records hr hlen => ?_, fun s tag key bytes hr hlen => ?_⟩
  · refine (exec_onEight (i := .writeRecipe tag recipe records) (fun k l _ => ?link) hr rfl ?fit rfl).trans
      (congrArg Host.Outcome.next ?_)
    case link =>
      cases records.mapM stepOf with
      | none => rfl
      | some steps => exact ite_relinked rfl rfl
    case fit =>
      refine decide_eq_true (show _ ≤ 4160 from ?_)
      rw [List.length_cons, stepRecords_length]
      omega
    cases ident? 8 recipe with
    | none => rfl
    | some k =>
      cases records.mapM stepOf with
      | none => rfl
      | some steps =>
        dsimp only
        rw [inUse_eq, apply_ite (s.reply _)]
        rfl
  · refine (exec_onEight (i := .writeKeyString tag key bytes) (fun k l _ => rfl) hr rfl ?fit rfl).trans
      (congrArg Host.Outcome.next ?_)
    case fit =>
      refine decide_eq_true (show _ ≤ 4160 from ?_)
      rw [List.length_cons]
      omega
    cases ident? 8 key with
    | none => rfl
    | some k =>
      dsimp only
      rw [List.length_take]
      rfl

end Tables

section Steps

variable {s : State} {c : Channel} {r : Run}

/-! ## Steps by their kind (R149 to R159) -/

/-- RETURN pops the newest return entry, or ends the run COMPLETE (R159). -/
theorem returnStep_eq (pass : Bool) : returnStep pass r = (match r.stack.reverse with
    | [] => .ends .complete
    | e :: rest => .moves { r with
        recipe := e.recipe, step := e.step, outcome := if pass then r.outcome else e.saved
        stack := rest.reverse }) := by
  unfold returnStep
  obtain ⟨recipe, step, outcome, wait, deadline, instants, stack, source, startedAt⟩ := r
  rcases List.eq_nil_or_concat stack with rfl | ⟨kept, e, rfl⟩
  · rfl
  · simp

theorem waitPowerStep_eq (on : Bool) (t : Nat) : waitPowerStep c on t s =
    (s, if decide ((s.chan c).power.state = .on) = on then .done .met else .waits (.power on) (some (t * 100))) :=
  (apply_ite (Prod.mk s) _ _ _).symm

theorem sendKeysStep_eq (k : KeyNo) (n : Nat) : sendKeysStep c k n s =
    if s.keys.get k = [] then (s, .done .failed)
    else (s.putChan c (({ s.chan c with tx := { (s.chan c).tx with
        slot := some ⟨s.keys.get k, k, n, true, .none, none, false⟩ } } : ChannelState).arbitrated s.now),
      if n = 0 then .waits .keys none else .done .met) := by
  unfold sendKeysStep
  refine if_congr List.isEmpty_iff rfl (congrArg (·, _) ?_)
  exact arbitrate_putChan _

theorem emptySlot_putChan (x : ChannelState) : emptySlot c (s.putChan c x) =
    s.putChan c (({ x with tx := { x.tx with slot := none } } : ChannelState).arbitrated s.now) := by
  unfold emptySlot modTx
  dsimp only
  rw [modChan_putChan, arbitrate_putChan]

theorem callStep_eq (k : RecipeNo) : callStep k r s =
    if s.recipe k = [] then .ends .badStep
    else .moves { r with
      recipe := k, step := 0, outcome := .none
      stack := (if r.stack.length < 4 then r.stack else r.stack.drop 1) ++ [⟨r.recipe, r.step + 1, r.outcome⟩] } := by
  unfold callStep
  rw [← List.drop_one]
  exact if_congr List.isEmpty_iff rfl rfl

/-- Settles O43: each kind of step by its own rule. -/
theorem stepsActByTheirKind : Obligations.StepsActByTheirKind := by
  intro s c r on u n t k o
  dsimp only
  refine ⟨?_, waitPowerStep_eq on t, rfl, rfl, rfl, rfl, rfl, sendKeysStep_eq k n, ?_, ?_, fun ho => ?_, ?_, ?_, rfl⟩
  · unfold takeStep
    cases (s.recipe r.recipe)[r.step]? with
    | none => exact congrArg (s, ·) (returnStep_eq false)
    | some x => rfl
  · have h := emptySlot_putChan (s := s) (c := c) (s.chan c)
    rw [putChan_chan] at h
    exact congrArg (·, Taken.done .met) h
  · exact congrArg (fun n => (s, Taken.moves { r with step := n })) (if_pos rfl)
  · exact congrArg (fun n => (s, Taken.moves { r with step := n })) (if_neg ho.symm)
  · exact congrArg (s, ·) (callStep_eq k)
  · exact congrArg (s, ·) (returnStep_eq on)

/-! ## A run told of an event, or due (R149 to R155) -/

theorem finishWait_eq (o : StepOutcome) (h : s.run c = some r) : finishWait c o s =
    goOn c { r with wait := none, deadline := none, outcome := o, step := r.step + 1 } s := by
  rw [finishWait, h]

theorem finishWait_consumed (u : UnitNo) (h : s.run c = some r) : finishWait c .met (consumeHit c u s) =
    goOn c { r with wait := none, deadline := none, outcome := .met, step := r.step + 1 } (s.putChan c { s.chan c with
      units := (s.chan c).units.set u { (s.chan c).units.get u with pending := false } }) := by
  refine finishWait_eq .met ?_
  rw [State.run, consumeHit, modUnit_eq_putUnitRecord, State.putUnitRecord, chan_putChan]
  exact h

/-- A waiting run told of an event: the step that waits for it ends, or counts it. -/
theorem tellRun_running (e : RunEvent) (h : s.run c = some r) :
    let goes (t : State) (o : StepOutcome) : State :=
      goOn c { r with wait := none, deadline := none, outcome := o, step := r.step + 1 } t
    let waits (w : RunWait) : State := s.putChan c { s.chan c with
      context := { (s.chan c).context with run := some { r with wait := some w } } }
    tellRun c e s = (match r.wait, e with
      | some (.power a), .power b => if a = b then goes s .met else s
      | some (.pulse a), .pulseEnded b => if a = b then goes s .met else s
      | some .breakSent, .breakEnded => goes s .met
      | some .keys, .passDone => goes s .met
      | some (.unitHit a), .hit b =>
        if a = b then goes (s.putChan c { s.chan c with
          units := (s.chan c).units.set a { (s.chan c).units.get a with pending := false } }) .met else s
      | some (.unitHit a), .unset b => if a = b then goes s .failed else s
      | some (.activity n k), .byte => if n ≤ k + 1 then goes s .met else waits (.activity n (k + 1))
      | some (.quiet q _), .byte => waits (.quiet q s.now)
      | some .heartbeat, .window alive => if alive then goes s .met else s
      | _, _ => s) := by
  unfold tellRun countByte
  simp only [h, finishWait_eq _ h, finishWait_consumed _ h]
  obtain ⟨recipe, step, outcome, wait, deadline, instants, stack, source, startedAt⟩ := r
  cases wait with
  | none => rfl
  | some w =>
    cases w with
    | power a => cases e <;> rfl
    | pulse a => cases e <;> rfl
    | unitHit a => cases e <;> rfl
    | activity n k => cases e <;> rfl
    | quiet q a => cases e <;> rfl
    | heartbeat => cases e <;> rfl
    | delay a => rfl
    | keys => cases e <;> rfl
    | breakSent => cases e <;> rfl

/-- Settles O45: what is told is matched with what the step waits for, and the run goes on from the next step. -/
theorem aWaitingRunGoesOnWhenToldOrDue : Obligations.AWaitingRunGoesOnWhenToldOrDue := by
  intro s c e
  dsimp only
  cases hrun : (s.chan c).context.run with
  | none =>
    have hidle : s.run c = none := hrun
    refine ⟨?_, congrArg Host.Outcome.next ?_, congrArg Host.Outcome.next ?_, congrArg Host.Outcome.next ?_⟩
    · rw [tellRun, hidle]
    · rw [hidle]
      rfl
    · rw [hidle]
      rfl
    · rw [hidle]
      rfl
  | some r =>
    have hrunning : s.run c = some r := hrun
    refine ⟨tellRun_running e hrunning, congrArg Host.Outcome.next ?_, congrArg Host.Outcome.next ?_,
      congrArg Host.Outcome.next ?_⟩
    · rw [hrunning]
      dsimp only [Option.bind_some]
      cases r.deadline with
      | none => rfl
      | some t => exact finishWait_eq (s := s.at t) .timedOut hrunning
    · rw [hrunning]
      dsimp only [Option.bind_some]
      cases r.wait with
      | none => rfl
      | some w =>
        cases w with
        | delay t => exact finishWait_eq (s := s.at t) .met hrunning
        | _ => rfl
    · rw [hrunning]
      dsimp only [Option.bind_some]
      cases r.wait with
      | none => rfl
      | some w =>
        cases w with
        | quiet q since => exact finishWait_eq (s := s.at (since + q * 256000)) .met hrunning
        | _ => rfl

end Steps

section Runs

variable {s : State} {c : Channel}

/-! ## A run's end (R162) -/

/-- A RUN pulse on a line, if there is one, cut short (R162). -/
def ChannelState.runShortened (x : ChannelState) (now : Nat) (time : Quad) (l : Line) : ChannelState :=
  match x.power.pulse l with
  | some p => if p.origin = Origin.run then x.pulseEnded now time l (min p.duration ((now - p.since) / 256000)) else x
  | none => x

theorem cutShort_run_putChan (x : ChannelState) (l : Line) :
    cutShort c l (· = .run) (s.putChan c x) = s.putChan c (x.runShortened s.now s.uptime l) := by
  unfold cutShort ChannelState.runShortened
  rw [chan_putChan]
  cases x.power.pulse l with
  | none => rfl
  | some p =>
    dsimp only
    rw [endPulse_putChan, ← apply_ite (s.putChan c) _ _ x]
    exact congrArg (s.putChan c) (if_congr decide_eq_true_iff rfl rfl)

/-- A channel's record with its RUN pulses cut short, its slot emptied and the arbiter's turn taken (R162). -/
def ChannelState.wound (x : ChannelState) (now : Nat) (time : Quad) : ChannelState :=
  let y := (x.runShortened now time .button).runShortened now time .reset
  ({ y with tx := { y.tx with slot := none } } : ChannelState).arbitrated now

/-- A channel's record with its run context replaced. -/
def ChannelState.withContext (x : ChannelState) (k : RunContext) : ChannelState := { x with context := k }

theorem runShortened_withContext (x : ChannelState) (k : RunContext) (now : Nat) (time : Quad) (l : Line) :
    (x.withContext k).runShortened now time l = (x.runShortened now time l).withContext k := by
  unfold ChannelState.runShortened
  rw [show (x.withContext k).power = x.power from rfl]
  cases x.power.pulse l with
  | none => rfl
  | some p =>
    dsimp only
    split
    · cases l <;> rfl
    · rfl

theorem arbitrated_withContext (x : ChannelState) (k : RunContext) (now : Nat) :
    (x.withContext k).arbitrated now = (x.arbitrated now).withContext k := by
  refine (ite_congr rfl (fun _ => ?_) fun _ => rfl).trans (apply_ite (ChannelState.withContext · k) _ _ _).symm
  rfl

theorem wound_withContext (x : ChannelState) (k : RunContext) (now : Nat) (time : Quad) :
    (x.withContext k).wound now time = (x.wound now time).withContext k := by
  unfold ChannelState.wound
  rw [runShortened_withContext, runShortened_withContext]
  exact arbitrated_withContext { ((x.runShortened now time .button).runShortened now time .reset) with
    tx := { ((x.runShortened now time .button).runShortened now time .reset).tx with slot := none } } k now

theorem modContext_putChan (x : ChannelState) (f : RunContext → RunContext) :
    modContext c f (s.putChan c x) = s.putChan c (x.withContext (f x.context)) := modChan_putChan x _

theorem wind_putChan (x : ChannelState) :
    (s.putChan c x |> cutShort c .button (· = .run) |> cutShort c .reset (· = .run) |> emptySlot c) =
      s.putChan c (x.wound s.now s.uptime) := by
  rw [cutShort_run_putChan, cutShort_run_putChan, emptySlot_putChan]
  rfl

theorem endRun_eq (outcome : RunResult) : endRun c outcome s =
    s.putChan c (((((s.chan c).wound s.now s.uptime).mark s.uptime .runEnd outcome.argument).flag .runEnd).withContext
      ⟨none, outcome, s.uptime⟩) := by
  have hstart : modContext c (fun k => { k with run := none }) s =
    s.putChan c ((s.chan c).withContext { (s.chan c).context with run := none }) := rfl
  have hwind := wind_putChan (s := s) (c := c) ((s.chan c).withContext { (s.chan c).context with run := none })
  unfold endRun
  dsimp only at hwind ⊢
  rw [hstart, hwind, wound_withContext, marker_putChan, raise_putChan, modContext_putChan, putChan_uptime]
  rfl

/-! ## Run Recipe and Stop Recipe (R148, R161) -/

theorem startRun_link (k : RecipeNo) (o : RunSource) : (startRun c k o s).link = s.link := by
  have h := congrArg State.link (startRun_withLink s s.link c k o)
  exact h

theorem putStarted_eq : s.putStarted c = (match (s.chan c).context.run with
      | some r => [1] ++ put1 r.recipe.val ++ put1 r.step ++ putItem 1 (r.wait.map fun w => put1 w.code)
      | none => [0, s.unstated 1, s.unstated 2, 0, 0]) ++
    (s.chan c).context.result.bytes (s.unstated 0) := by
  unfold State.putStarted
  dsimp only
  cases (s.chan c).context.run <;> rfl

theorem putStarted_withLink {l : Link} (hl : l.formed = s.link.formed) : (s.withLink l).putStarted c = s.putStarted c := by
  rw [putStarted_eq, putStarted_eq]
  simp only [unstated_withLink hl, chan_withLink]

theorem startRun_eq (k : RecipeNo) (source : RunSource) : startRun c k source s =
    let r : Run := ⟨k, 0, .none, none, none, 0, [], source, s.uptime⟩
    goOn c r (s.putChan c (({ s.chan c with context := ⟨some r, .none, s.uptime⟩ } : ChannelState).mark s.uptime
      .runStart (k.val + 256 * source.code))) := by
  unfold startRun modContext
  dsimp only
  rw [modChan_eq_putChan, marker_putChan]

/-- A run that has started, with what its reply says of it. -/
theorem startRun_sameLinked (k : RecipeNo) :
    SameLinked (fun s => let t := startRun c k .host s; done t (t.putStarted c)) s := by
  intro l hl
  dsimp only
  rw [startRun_withLink, putStarted_withLink (hl.trans (congrArg Link.formed (startRun_link k .host)).symm)]
  rfl

/-- Settles O42: a run's end as one record, and a start that goes on from step 0. -/
theorem runsStartAndStop : Obligations.RunsStartAndStop := by
  refine ⟨fun s tag ch recipe hr => ?_, fun s c k source => startRun_eq k source, fun s tag ch hr => ?_,
    fun s c outcome => ?_⟩
  · refine (exec_onChannel (i := .runRecipe tag ch recipe) (ch := ch)
      (fun c => onEight_sameLinked fun k l hl => ?link) hr rfl rfl rfl).trans (congrArg Host.Outcome.next ?_)
    case link => exact ite_relinked rfl (ite_relinked rfl (ite_relinked rfl (startRun_sameLinked k l hl)))
    unfold onEight
    cases ident? 8 ch with
    | none => rfl
    | some c =>
      cases ident? 8 recipe with
      | none => rfl
      | some k =>
        dsimp only
        rw [apply_ite (s.reply _), apply_ite (s.reply _), apply_ite (s.reply _), putStarted_eq]
        exact if_congr Iff.rfl rfl (if_congr Iff.rfl rfl (if_congr List.isEmpty_iff rfl rfl))
  · refine (exec_onChannel (fun c l _ => ?link) hr rfl rfl rfl).trans (congrArg Host.Outcome.next ?_)
    case link => exact ite_relinked (congrArg done (endRun_withLink s l c .stopped)) rfl
    cases ident? 8 ch with
    | none => rfl
    | some c =>
      dsimp only
      rw [apply_ite (s.reply _)]
      rfl
  · exact endRun_eq outcome

end Runs

end Sys2Proof.Machine

/-! # The resets (R17, R18, R182) -/

namespace Sys2Proof.Machine

section Cleared

/-! ## What power-on reset and Part Reset leave alike -/

theorem uptime_fresh {t : State} (h : t.epoch = t.now) : t.uptime = 0 := by
  rw [State.uptime, h, Nat.sub_self]
  rfl

/-- A state whose tables, queues and lists are at their reset values. -/
theorem clearedOf_of_reset {t : State} (hdrives : t.drives = Table.replicate 4 .reset) (hclean : t.cleanList = [])
    (hpages : t.pageWaiters = []) (hwants : t.wants = []) (hcounter : t.wantCounter = 0) (hentries : t.entryWaiters = [])
    (hqueue : t.spillQueue = []) (hspills : t.spills = []) (hspill : t.spillCounter = 0)
    (hrecipes : t.recipes = Table.replicate 8 []) (hkeys : t.keys = Table.replicate 8 []) (hrestarted : t.restarted = true)
    (hmask : t.mask = .reset) : clearedOf t := by
  refine ⟨fun d => ?_, hclean, hpages, hwants, hcounter, hentries, hqueue, hspills, hspill, fun k => ⟨?_, ?_⟩,
    hrestarted, hmask⟩
  · rw [State.drive, hdrives]
    exact Table.get_replicate _ _
  · rw [State.recipe, hrecipes]
    exact Table.get_replicate _ _
  · rw [hkeys]
    exact Table.get_replicate _ _

/-! ## A channel's record -/

theorem powerOn_eq (now : Nat) (v : Pins) : ChannelState.powerOn now v = poweredOn now v := by
  obtain ⟨pg, lock, rest⟩ := v
  cases pg <;> rfl

theorem partReset_port (p : Port) : p.partReset 0 =
    let ended : Port := match p.request with
      | none => p
      | some r => match r.wait with
        | some (.held _) => p
        | _ =>
          if p.state = .suspended then { p with request := some { r with wait := some (.held .noMedium) } }
          else { p with request := none, last := some ⟨.noMedium, r.done, 0⟩ }
    { ended with
      presence := true, removalLock := false
      state := if p.state = .off then (if p.vbus then .attached else .noVbus) else p.state } := by
  obtain ⟨presence, vbusRaw, vbus, vbusSince, state, lock, wake, request, handed, last⟩ := p
  cases request with
  | none => rfl
  | some r =>
    obtain ⟨kind, lba, count, done, data, wait⟩ := r
    cases wait with
    | none => cases state <;> rfl
    | some w =>
      cases w with
      | held => rfl
      | want | page | wantEntry | dirtyRoom | spills => cases state <;> rfl

theorem partReset_eq (now : Nat) (x : ChannelState) : x.partReset now = partResetOf now x := by
  unfold ChannelState.partReset partResetOf
  rw [partReset_port]
  rfl

/-- Settles O54: each block's reset value is its table's. -/
theorem resetsLeaveTheirValues : Obligations.ResetsLeaveTheirValues := by
  refine ⟨fun s pins => ⟨_, rfl, ?_, rfl, rfl, uptime_fresh rfl, rfl, rfl, fun c => ?_⟩, fun s tag hr => ?_⟩
  · exact clearedOf_of_reset rfl rfl rfl rfl rfl rfl rfl rfl rfl rfl rfl rfl rfl
  · exact (Table.get_map _ _ _).trans (powerOn_eq _ _)
  · have htaken := takeRequest_ready (i := .partReset tag) (h := hostPartReset) rfl hr rfl
    refine ⟨_, congrArg Host.Outcome.next htaken, ?_, rfl, rfl, uptime_fresh rfl, rfl, rfl, fun c => ?_⟩
    · exact clearedOf_of_reset rfl rfl rfl rfl rfl rfl rfl rfl rfl rfl rfl rfl rfl
    · exact (Table.get_map _ _ _).trans (partReset_eq _ _)

end Cleared

section ChannelReset

variable {s : State} {c : Channel}

/-! ## Channel Reset (R17) -/

theorem channelReset_watch (now : Nat) (powered : Bool) (w : Watch) : w.channelReset now powered =
    let watching := w.settings.enable && powered
    { w with
      state := if watching then .watching else .idle
      count := 0, held := 0, heldAt := 0, lowStreak := 0, fastRaised := false
      windowStart := if watching then now else w.windowStart
      windowLength := if watching then w.settings.window else w.windowLength } := by
  obtain ⟨raw, qualified, since, state, count, windowStart, windowLength, held, heldAt, lowStreak, fastRaised, settings⟩ := w
  unfold Watch.channelReset
  dsimp only [Watch.closed]
  cases settings.enable && powered <;> rfl

theorem channelReset_finder (now : Nat) (f : Finder) : f.channelReset now =
    let fixed := decide (f.state = .fixed)
    { f with
      state := if fixed then .fixed else .hunting
      lastLocked := 7, divisor := if fixed then divisorOf f.fixedRate else 2222
      candidate := none, agreement := 0, last := ⟨0, none, 0, .none, none⟩
      windowStart := now, windowLength := f.settings.window, q := 0, m := none, f := 0 } := by
  obtain ⟨state, rest⟩ := f
  cases state <;> rfl

/-- A channel's record with its blocks at their Channel Reset values, the flags as they were (R17). -/
def ChannelState.blocksReset (x : ChannelState) (now : Nat) (time : Quad) : ChannelState :=
  let fixed := decide (x.finder.state = .fixed)
  let watching := x.watch.settings.enable && decide (x.power.state = .on)
  { x with
    power := { x.power with
      button := none, reset := none
      buttonWindowEnd := if x.power.button.isSome then now + 30000 * 256000 else x.power.buttonWindowEnd
      resetWindowEnd := if x.power.reset.isSome then now + 30000 * 256000 else x.power.resetWindowEnd }
    finder := { x.finder with
      state := if fixed then .fixed else .hunting
      lastLocked := 7, divisor := if fixed then divisorOf x.finder.fixedRate else 2222
      candidate := none, agreement := 0, last := ⟨0, none, 0, .none, none⟩
      windowStart := now, windowLength := x.finder.settings.window, q := 0, m := none, f := 0 }
    watch := { x.watch with
      state := if watching then .watching else .idle
      count := 0, held := 0, heldAt := 0, lowStreak := 0, fastRaised := false
      windowStart := if watching then now else x.watch.windowStart
      windowLength := if watching then x.watch.settings.window else x.watch.windowLength }
    framing := if x.finder.rxdLevel then .waitStart else .waitHigh
    store := ⟨[], 0, 0, [], x.store.floor, x.store.ceiling⟩
    tx := { x.tx with char := none, queue := [], slot := none, brk := none, hold := none, settling := false }
    units := x.units.map fun u => { u with
      state := if u.state = .unset then .unset else .disarmed, hits := 0, pending := false, progress := 0 }
    context := if x.context.run.isSome then ⟨none, .reset, time⟩ else x.context
    slots := x.slots.map fun v => { v with
      state := if v.state = .spent then .armed else v.state, fires := 0 } }

theorem channelReset_eq (x : ChannelState) (now : Nat) (time : Quad) : x.channelReset now time =
    if x.context.run.isSome then (x.blocksReset now time).flag .runEnd else x.blocksReset now time := by
  unfold ChannelState.channelReset ChannelState.blocksReset
  rw [channelReset_watch, channelReset_finder]
  obtain ⟨power, finder, watch, framing, store, tx, units, port, ⟨run, result, resultAt⟩, slots, flags⟩ := x
  cases run <;> rfl

theorem channelReset_withLink (l : Link) : channelReset c (s.withLink l) = (channelReset c s).withLink l :=
  servePages_withLink (modChan c (ChannelState.channelReset s.now s.uptime) s) l

/-- Settles O55: each block's Channel Reset value is its table's. -/
theorem aChannelResetKeepsPowerAndSettings : Obligations.AChannelResetKeepsPowerAndSettings := by
  intro s tag ch hr
  refine (exec_onChannel (fun c l _ => ?link) hr rfl rfl rfl).trans (congrArg Host.Outcome.next ?_)
  case link => exact congrArg done (channelReset_withLink l)
  cases ident? 8 ch with
  | none => rfl
  | some c =>
    exact congrArg (fun y => s.answered _ (servePages (s.putChan c y)) .ok [])
      (channelReset_eq (s.chan c) s.now s.uptime)

end ChannelReset

end Sys2Proof.Machine
